-- ==== Sys2Proof/Word.lean ====
section
/-! DEFINITION. Word.lean: the widths and index ranges the WV8 manual uses, and nothing else. -/

namespace Sys2Proof

/-- One byte of the setup port or of the vote line (R143, R175). -/
abbrev Byte := BitVec 8

/-- A 16-bit value: a digest, a check value, a 16-bit operand (R128, section 11.4). -/
abbrev Half := BitVec 16

/-- A tick of the station's millisecond count, which wraps at 2^32 (R159). -/
abbrev Tick := BitVec 32

/-- A set of point numbers 0 to 23, bit p standing for point p (section 11.1, CLEAR body). -/
abbrev PointMask := BitVec 24

/-- A station address, 0 to 15. -/
abbrev Address := Fin 16

/-- A channel number, 0 to 7. -/
abbrev Channel := Fin 8

/-- A point number, 0 to 23 (R1). -/
abbrev PointNo := Fin 24

/-- A trip group, 0 to 3 (R7). -/
abbrev GroupNo := Fin 4

/-- A window profile number, 0 to 7 (R84). -/
abbrev ProfileNo := Fin 8

end Sys2Proof
end

