-- ==== Sys2Proof/Machine/Bytes.lean ====
section
/-! DEFINITION. Machine/Bytes.lean: byte order (chapter 11: most significant byte first), index ranges, tables, and the
CRC of R189. -/

namespace Sys2Proof.Machine

/-- A number as one byte. -/
def natByte (n : Nat) : Byte := BitVec.ofNat 8 n

/-- A 16-bit value, most significant byte first. -/
def halfBytes (w : Half) : List Byte := [w.extractLsb' 8 8, w.extractLsb' 0 8]

/-- A number as a 16-bit value, most significant byte first. -/
def natHalfBytes (n : Nat) : List Byte := halfBytes (BitVec.ofNat 16 n)

/-- A tick, most significant byte first. -/
def tickBytes (t : Tick) : List Byte :=
  [t.extractLsb' 24 8, t.extractLsb' 16 8, t.extractLsb' 8 8, t.extractLsb' 0 8]

/-- Two bytes, most significant first, as a 16-bit value. -/
def halfOf (hi lo : Byte) : Half := hi ++ lo

/-- The three bytes of a point mask: points 0 to 7, 8 to 15, 16 to 23, bit k of each being its k-th point (section 11.1). -/
def maskBytes (m : PointMask) : List Byte := [m.extractLsb' 0 8, m.extractLsb' 8 8, m.extractLsb' 16 8]

/-- A point mask from its three bytes in the order they are sent. -/
def maskOf (b0 b1 b2 : Byte) : PointMask := (b2 ++ b1 ++ b0 : BitVec 24)

/-- The bits of a byte in the order they travel on SDI and SDO: most significant first (R174). -/
def byteBits (b : Byte) : List Bool := (List.range 8).map fun k => b.getLsbD (7 - k)

/-- One rising edge of SCK: the bit on SDI enters a byte at its low end, so that the first of eight ends as bit 7 (R174). -/
def shiftIn (b : Byte) (bit : Bool) : Byte := (b <<< 1) ||| (if bit then 1#8 else 0#8)

/-- The bytes that the samples of SDI since CS fell complete: eight rising edges of SCK complete one, and the bits of a byte not
yet complete are in none (R174, R176). -/
def bytesOfBits : List Bool → List Byte
  | b7 :: b6 :: b5 :: b4 :: b3 :: b2 :: b1 :: b0 :: more =>
    [b7, b6, b5, b4, b3, b2, b1, b0].foldl shiftIn 0#8 :: bytesOfBits more
  | _ => []

/-- One byte with `hi` in bits 7–4 and `lo` in bits 3–0. -/
def nibbles (hi lo : BitVec 4) : Byte := hi ++ lo

/-- Bits 7–4 of a byte. -/
def highNibble (b : Byte) : BitVec 4 := b.extractLsb' 4 4

/-- Bits 3–0 of a byte. -/
def lowNibble (b : Byte) : BitVec 4 := b.extractLsb' 0 4

/-- A number as an index below `n`, where it is one. -/
def indexBelow (n k : Nat) : Option (Fin n) := if h : k < n then some ⟨k, h⟩ else none

/-- A table with one entry replaced. -/
def setAt {α : Type} {n : Nat} (v : Vector α n) (i : Fin n) (x : α) : Vector α n := v.set i.val x i.isLt

/-- A table with every entry passed through a function. -/
def mapTable {α β : Type} {n : Nat} (f : α → β) (v : Vector α n) : Vector β n := Vector.ofFn fun i : Fin n => f v[i]

/-- One shift of the CRC register: left by one, and 0x1021 combined in when the bit shifted out is 1 (R189). -/
def crcShift (r : Half) : Half := if r.msb then (r <<< 1) ^^^ 0x1021#16 else r <<< 1

/-- `n` shifts of the CRC register. -/
def crcShifts : Nat → Half → Half
  | 0, r => r
  | n + 1, r => crcShifts n (crcShift r)

/-- One byte into the CRC register: combined into its high byte, then eight shifts (R189). -/
def crcByte (r : Half) (b : Byte) : Half := crcShifts 8 (r ^^^ (b ++ 0#8 : Half))

/-- The CRC of a byte stream (R128, R189). -/
def crc16 (bytes : List Byte) : Half := bytes.foldl crcByte 0xFFFF#16

end Sys2Proof.Machine
end

