-- ==== Sys2Proof/Syntax.lean ====
section
/-! DEFINITION. Syntax.lean: the commands of the WV8, one constructor for each row of spec/opcode_table.json. The table
lists no operands (log 16): a setup request carries its operand bytes as section 11.4 lays them out, a received frame the
fields of its header and body as section 11.1 does, and an event what tells it from another event of its kind. -/

namespace Sys2Proof

/-- Why the receiver abandons a frame (R129, R145, R146), but for a gap between characters, which is a row of its own. -/
inductive BrokenReason where
  | stopBit        -- a stop bit is sampled dominant
  | bodyLength     -- the header states a body of more than 40 bytes
  | checkValue     -- the CRC differs from the check value received
  | fitToKind      -- the body does not fit the kind
  | shortBreak     -- the opening dominant run ends before 10 bit times
  | newBreak       -- a dominant run of 10 bit times or more inside a frame: it opens a new frame at once
  deriving DecidableEq, Repr

/-- The commands, in the order of the table's rows. -/
inductive Instr where
  /-- Power is applied (R160). -/
  | powerOn
  /-- RST goes low, and stays low for `micros` µs at least (R160). -/
  | rstLow (micros : Nat)
  /-- RST returns high (R160). -/
  | rstHigh
  /-- The 2 ms start-up ends (R160). -/
  | startupComplete
  /-- CS falls (R174). -/
  | csFalling
  /-- CS rises (R176). -/
  | csRising
  /-- A request byte that names no request (R175). -/
  | unknownRequest (code : Byte)
  /-- SET_STATION 0x10 (R180). -/
  | setStation (address rate beat scan : Byte)
  /-- SET_PROFILE 0x11 (R86). -/
  | setProfile (profile : Byte) (faultLow low high faultHigh : Half) (hysteresis persistence sense : Byte)
  /-- SET_CHANNEL 0x12 (R85). -/
  | setChannel (channel enabled profile : Byte)
  /-- SET_GROUP 0x13 (R66). -/
  | setGroup (group failAction startState : Byte)
  /-- STAGE_BEGIN 0x14 (R10). -/
  | stageBegin (point : Byte)
  /-- STAGE_POINT 0x15 (R11). -/
  | stagePoint (quorum mask policy latched group : Byte) (confirm release : Half)
  /-- STAGE_ADD 0x16 (R12). -/
  | stageAdd (station channel : Byte)
  /-- COMMIT_POINT 0x17 (R13, R14). -/
  | commitPoint
  /-- DROP_POINT 0x18 (R15). -/
  | dropPoint (point : Byte)
  /-- START 0x19 (R162). -/
  | start
  /-- VALIDATING ends (R163, R164); the operand is the level on LRX at that moment, which LISTEN entry looks at (R145). -/
  | validationEnd (lrxDominant : Bool)
  /-- READ_STATUS 0x20 (R181). -/
  | readStatus
  /-- READ_POINT 0x21 (R64). -/
  | readPoint (point : Byte)
  /-- READ_POINT_RECORD 0x22 (R182). -/
  | readPointRecord (point index : Byte)
  /-- READ_SOURCE 0x23 (R37). -/
  | readSource (index : Byte)
  /-- READ_PEER 0x24 (R122). -/
  | readPeer (address : Byte)
  /-- READ_CHANNEL 0x25 (R101). -/
  | readChannel (channel : Byte)
  /-- READ_FIRST_OUT 0x26 (R81). -/
  | readFirstOut (group : Byte)
  /-- READ_EVENTS 0x27 (R186). -/
  | readEvents
  /-- SET_EVENT_MASK 0x30 (R184). -/
  | setEventMask (mask : Byte)
  /-- ACK_FIRST_OUT 0x31 (R80). -/
  | ackFirstOut (group : Byte)
  /-- CLEAR_POINTS 0x32 (R74). -/
  | clearPoints (mask : PointMask) (scope : Byte)
  /-- RESTART 0x3F (R172). -/
  | restart
  /-- CLR falls (R73). -/
  | clrFalling
  /-- CLR rises (R73). -/
  | clrRising
  /-- The qualification time ends with CLR low (R73). -/
  | clrQualified
  /-- The listen period expires (R166). -/
  | listenPeriodExpiry
  /-- The settle period expires (R170). -/
  | settlePeriodExpiry
  /-- The beat timer expires (R169). -/
  | beatTimerExpiry
  /-- The confirm timer of a point expires (R45). -/
  | confirmTimerExpiry (point : PointNo)
  /-- The release timer of a point expires (R47). -/
  | releaseTimerExpiry (point : PointNo)
  /-- The silence timer of a peer expires (R116). -/
  | silenceTimerExpiry (peer : Address)
  /-- The heal timer of a peer expires (R115). -/
  | healTimerExpiry (peer : Address)
  /-- A scan begins (R90). -/
  | scanStart
  /-- The conversion under way completes; the operand is the voltage at the AIN pin, in units of 10^-13 V (R89, R191). -/
  | conversionComplete (voltage : Int)
  /-- A slot begins on the quiet line (R150). -/
  | slotStart
  /-- The own frame in flight is sent and read back whole (R135). -/
  | frameComplete
  /-- Readback of the own frame in flight finds a mismatch (R152). -/
  | abort
  /-- A valid JOIN has been collected (R109, R124). -/
  | receiveJoin (source : Address) (sequence : Byte) (digest : Half) (beat channels : Byte)
  /-- A valid BEAT has been collected (R110, R125): one verdict code for each channel. -/
  | receiveBeat (source : Address) (sequence : Byte) (digest : Half) (verdicts : Vector Byte 8)
  /-- A valid CHANGE has been collected (R111, R126): its entries, the count being their number. -/
  | receiveChange (source : Address) (sequence : Byte) (entries : List Byte)
  /-- A valid PROBE has been collected (R112, R127): its targets, the count being their number. -/
  | receiveProbe (source : Address) (sequence : Byte) (targets : List Byte)
  /-- A valid CLEAR has been collected (R113, R127). -/
  | receiveClear (source : Address) (sequence : Byte) (mask : PointMask)
  /-- A valid frame whose kind code names none of the five kinds has been collected (R129). -/
  | receiveUnknownKind (source : Address)
  /-- A valid frame carrying the own source address has been collected (R155). -/
  | duplicateAddress
  /-- A frame in collection is abandoned (R129, R146). -/
  | brokenFrame (reason : BrokenReason)
  /-- More than 2 character times pass without the next start bit (R145). -/
  | characterGapTimeout
  /-- A dominant level appears on LRX (R145, R149). -/
  | lineActivity
  deriving DecidableEq, Repr

end Sys2Proof
end

