-- ==== Sys2Proof/Decode.lean ====
section
/-! DEFINITION. Decode.lean: commands from bits and bytes. spec/opcode_table.json gives no row any bits, so no table word
spells a command. What the manual does code in bytes is read and written here as well: the requests of the setup port
(section 11.4) and the frames of the vote line (section 11.1). -/

namespace Sys2Proof

open Sys2Proof.Machine

/-- The command a word of spec/opcode_table.json spells: none, since no row of the table has bits (log 15). -/
def decodeTableWord (_nbits _w : Nat) : Option Instr := none

/-! ### Requests of the setup port -/

/-- The bytes the host sends for a request: its code, then its operands (R175, section 11.4). None for a command that does
not come over the setup port. -/
def encodeRequest : Instr → Option (List Byte)
  | .unknownRequest code => some [code]
  | .setStation a r b n => some [0x10, a, r, b, n]
  | .setProfile p fl l h fh hy pe se => some ([0x11, p] ++ halfBytes fl ++ halfBytes l ++ halfBytes h ++ halfBytes fh ++ [hy, pe, se])
  | .setChannel c e p => some [0x12, c, e, p]
  | .setGroup g f t => some [0x13, g, f, t]
  | .stageBegin p => some [0x14, p]
  | .stagePoint q m po la g c r => some ([0x15, q, m, po, la, g] ++ halfBytes c ++ halfBytes r)
  | .stageAdd t c => some [0x16, t, c]
  | .commitPoint => some [0x17]
  | .dropPoint p => some [0x18, p]
  | .start => some [0x19]
  | .readStatus => some [0x20]
  | .readPoint p => some [0x21, p]
  | .readPointRecord p i => some [0x22, p, i]
  | .readSource i => some [0x23, i]
  | .readPeer a => some [0x24, a]
  | .readChannel c => some [0x25, c]
  | .readFirstOut g => some [0x26, g]
  | .readEvents => some [0x27]
  | .setEventMask m => some [0x30, m]
  | .ackFirstOut g => some [0x31, g]
  | .clearPoints m sc => some ([0x32] ++ maskBytes m ++ [sc])
  | .restart => some [0x3F]
  | .powerOn | .rstLow _ | .rstHigh | .startupComplete | .csFalling | .csRising | .validationEnd _ | .clrFalling | .clrRising
  | .clrQualified | .listenPeriodExpiry | .settlePeriodExpiry | .beatTimerExpiry | .confirmTimerExpiry _
  | .releaseTimerExpiry _ | .silenceTimerExpiry _ | .healTimerExpiry _ | .scanStart | .conversionComplete _ | .slotStart
  | .frameComplete | .abort | .receiveJoin .. | .receiveBeat .. | .receiveChange .. | .receiveProbe .. | .receiveClear ..
  | .receiveUnknownKind _ | .duplicateAddress | .brokenFrame _ | .characterGapTimeout | .lineActivity => none

/-- How many operand bytes follow a request code; 0 for a code that names no request (R175, section 11.4). -/
def operandCount (code : Byte) : Nat :=
  match code.toNat with
  | 0x10 => 4 | 0x11 => 12 | 0x12 => 3 | 0x13 => 3 | 0x14 => 1 | 0x15 => 9 | 0x16 => 2 | 0x18 => 1
  | 0x21 => 1 | 0x22 => 2 | 0x23 => 1 | 0x24 => 1 | 0x25 => 1 | 0x26 => 1
  | 0x30 => 1 | 0x31 => 1 | 0x32 => 4
  | _ => 0

/-- The request that a code and its operand bytes spell (R175, section 11.4): none while operand bytes are missing. -/
def decodeOperands (code : Byte) (operands : List Byte) : Option Instr :=
  match code.toNat, operands with
  | 0x10, [a, r, b, n] => some (.setStation a r b n)
  | 0x10, _ => none
  | 0x11, [p, fl1, fl0, l1, l0, h1, h0, fh1, fh0, hy, pe, se] =>
    some (.setProfile p (halfOf fl1 fl0) (halfOf l1 l0) (halfOf h1 h0) (halfOf fh1 fh0) hy pe se)
  | 0x11, _ => none
  | 0x12, [c, e, p] => some (.setChannel c e p)
  | 0x12, _ => none
  | 0x13, [g, f, t] => some (.setGroup g f t)
  | 0x13, _ => none
  | 0x14, [p] => some (.stageBegin p)
  | 0x14, _ => none
  | 0x15, [q, m, po, la, g, c1, c0, r1, r0] => some (.stagePoint q m po la g (halfOf c1 c0) (halfOf r1 r0))
  | 0x15, _ => none
  | 0x16, [t, c] => some (.stageAdd t c)
  | 0x16, _ => none
  | 0x17, [] => some .commitPoint
  | 0x17, _ => none
  | 0x18, [p] => some (.dropPoint p)
  | 0x18, _ => none
  | 0x19, [] => some .start
  | 0x19, _ => none
  | 0x20, [] => some .readStatus
  | 0x20, _ => none
  | 0x21, [p] => some (.readPoint p)
  | 0x21, _ => none
  | 0x22, [p, i] => some (.readPointRecord p i)
  | 0x22, _ => none
  | 0x23, [i] => some (.readSource i)
  | 0x23, _ => none
  | 0x24, [a] => some (.readPeer a)
  | 0x24, _ => none
  | 0x25, [c] => some (.readChannel c)
  | 0x25, _ => none
  | 0x26, [g] => some (.readFirstOut g)
  | 0x26, _ => none
  | 0x27, [] => some .readEvents
  | 0x27, _ => none
  | 0x30, [m] => some (.setEventMask m)
  | 0x30, _ => none
  | 0x31, [g] => some (.ackFirstOut g)
  | 0x31, _ => none
  | 0x32, [m0, m1, m2, sc] => some (.clearPoints (maskOf m0 m1 m2) sc)
  | 0x32, _ => none
  | 0x3F, [] => some .restart
  | 0x3F, _ => none
  | _, [] => some (.unknownRequest code)
  | _, _ => none

/-- The request taken from the bytes of one transaction (R175): the first byte is the code; bytes past the last operand are
ignored (R174); none while the operands are not complete. -/
def decodeRequest : List Byte → Option Instr
  | [] => none
  | code :: rest => decodeOperands code (rest.take (operandCount code))

/-- The request taken from the levels on SDI at the rising edges of SCK since CS fell (R174, R175): none until the last operand
byte is complete. -/
def decodeSamples (samples : List Bool) : Option Instr := decodeRequest (bytesOfBits samples)

/-! ### Frames of the vote line -/

/-- The characters of a frame: header, body, check value (R123, section 11.1). -/
def frameCharacters (kind : BitVec 4) (source : Address) (sequence : Byte) (body : List Byte) : List Byte :=
  let checked := nibbles kind (BitVec.ofNat 4 source.val) :: sequence :: natByte body.length :: body
  checked ++ halfBytes (crc16 checked)

/-- The characters of the frame a RECEIVE command stands for (section 11.1). None for every other command. -/
def encodeFrame : Instr → Option (List Byte)
  | .receiveJoin a q d b m => some (frameCharacters 1 a q (halfBytes d ++ [b, m]))
  | .receiveBeat a q d v => some (frameCharacters 2 a q (halfBytes d ++ v.toList))
  | .receiveChange a q e => some (frameCharacters 3 a q (natByte e.length :: e))
  | .receiveProbe a q t => some (frameCharacters 4 a q (natByte t.length :: t))
  | .receiveClear a q m => some (frameCharacters 5 a q (maskBytes m))
  | .powerOn | .rstLow _ | .rstHigh | .startupComplete | .csFalling | .csRising | .unknownRequest _
  | .setStation .. | .setProfile .. | .setChannel .. | .setGroup .. | .stageBegin _ | .stagePoint ..
  | .stageAdd .. | .commitPoint | .dropPoint _ | .start | .validationEnd _ | .readStatus | .readPoint _ | .readPointRecord ..
  | .readSource _ | .readPeer _ | .readChannel _ | .readFirstOut _ | .readEvents | .setEventMask _ | .ackFirstOut _
  | .clearPoints .. | .restart | .clrFalling | .clrRising | .clrQualified | .listenPeriodExpiry | .settlePeriodExpiry
  | .beatTimerExpiry | .confirmTimerExpiry _ | .releaseTimerExpiry _ | .silenceTimerExpiry _ | .healTimerExpiry _
  | .scanStart | .conversionComplete _ | .slotStart | .frameComplete | .abort
  | .receiveUnknownKind _ | .duplicateAddress | .brokenFrame _ | .characterGapTimeout | .lineActivity => none

/-- The command a frame with a right check value is, by its kind code; a body that does not fit its kind breaks the frame
(R129, R188). -/
def decodeBody (kind : BitVec 4) (source : Address) (sequence : Byte) (body : List Byte) : Instr :=
  match kind.toNat, body with
  | 1, [d1, d0, b, m] => .receiveJoin source sequence (halfOf d1 d0) b m
  | 1, _ => .brokenFrame .fitToKind
  | 2, [d1, d0, v0, v1, v2, v3, v4, v5, v6, v7] =>
    .receiveBeat source sequence (halfOf d1 d0) #v[v0, v1, v2, v3, v4, v5, v6, v7]
  | 2, _ => .brokenFrame .fitToKind
  | 3, n :: entries =>
    if 1 ≤ n.toNat ∧ n.toNat ≤ 8 ∧ entries.length = n.toNat then .receiveChange source sequence entries
    else .brokenFrame .fitToKind
  | 3, [] => .brokenFrame .fitToKind
  | 4, n :: targets =>
    if 1 ≤ n.toNat ∧ n.toNat ≤ 4 ∧ targets.length = n.toNat then .receiveProbe source sequence targets
    else .brokenFrame .fitToKind
  | 4, [] => .brokenFrame .fitToKind
  | 5, [m0, m1, m2] => .receiveClear source sequence (maskOf m0 m1 m2)
  | 5, _ => .brokenFrame .fitToKind
  | _, _ => .receiveUnknownKind source

/-- What the receiver makes of the characters it collects after a break, when the line then stays recessive (R129): the
checks in the order they are made. Too few characters end in a gap. -/
def decodeFrame : List Byte → Instr
  | head :: sequence :: length :: rest =>
    if length.toNat > 40 then .brokenFrame .bodyLength
    else
      let body := rest.take length.toNat
      match rest.drop length.toNat with
      | c1 :: c0 :: _ =>
        if crc16 (head :: sequence :: length :: body) = halfOf c1 c0 then
          decodeBody (highNibble head) ⟨(lowNibble head).toNat, (lowNibble head).isLt⟩ sequence body
        else .brokenFrame .checkValue
      | _ => .characterGapTimeout
  | _ => .characterGapTimeout

end Sys2Proof
end

