-- ==== Sys2Proof/Config.lean ====
section
/-! DEFINITION. Config.lean: the fixed limits of the part, and the free values: the choices the manual leaves open. -/

namespace Sys2Proof.Config

/-- The contributor pool holds at most 96 entries (R9). -/
def poolLimit : Nat := 96

/-- The verdict table holds at most 48 distinct sources (R9, R163). -/
def sourceLimit : Nat := 48

/-- A contributor list holds at most 8 pairs (R2, R12). -/
def listLimit : Nat := 8

/-- Confirm and release times are at most 2550 ms (R6, R13). -/
def timeLimit : Nat := 2550

/-- At most four PROBE items are pending (R131). -/
def probeLimit : Nat := 4

/-- The consecutive-abort count at which the station enters FAULTED (R154). -/
def abortLimit : Nat := 8

/-- The subsequent count of a first-out record saturates here (R77). -/
def subsequentLimit : Nat := 255

/-- The qualification time of a press on CLR, in ms (R73). -/
def clrQualification : Nat := 10

/-- The start-up after RST high, in ms (R160). -/
def startupTime : Nat := 2

/-- The shortest low level on RST that is sure to take effect, in µs (R160). -/
def resetPulse : Nat := 10

/-- The largest body length a frame may state (R123). -/
def bodyLimit : Nat := 40

/-- FREE VALUE (log 8). Whether a low pulse on RST shorter than 10 µs is taken: the manual allows either (R160).
The argument is the state's count of free choices. -/
opaque shortResetTaken : Nat → Bool

/-- FREE VALUE (log 5). The order in which the vote engine takes the notices of one update: they have no order among
themselves (R35, R43). The first argument is the state's count of free choices, the second a point number; notices are
taken by rising value. -/
opaque noticeOrder : Nat → Nat → Nat

/-- FREE VALUE (log 6). Whether the PROBE item a gap draws is queued ahead of the BEAT item the same PROBE frame draws: the
manual gives two insertions by one event and no order between them (R112, R114, R132). -/
opaque probeAheadOfBeat : Nat → Bool

/-- FREE VALUE (log 7). Which of several timer expiries due at one moment the idle block takes first: expiries have no
order between them (R49, R173). -/
opaque dueChoice : Nat → Nat

end Sys2Proof.Config
end

