-- ==== Sys2Proof/Machine/State.lean ====
section
/-! DEFINITION. Machine/State.lean: what the WV8 holds, block by block, its values after power-on, and the named updates. -/

namespace Sys2Proof.Machine

/-- The station states (R159). -/
inductive StationState where
  | reset | setup | validating | listen | join | run | faulted
  deriving DecidableEq, Repr

/-- LISTEN, JOIN and RUN: the states in which the line is received, a slot count kept and peers watched (R120, R158). -/
def StationState.online : StationState → Bool
  | .listen | .join | .run => true
  | .reset | .setup | .validating | .faulted => false

/-- JOIN and RUN: the states in which points are evaluated, items queued and frames started (R41, R132, R151). -/
def StationState.voting : StationState → Bool
  | .join | .run => true
  | .reset | .setup | .validating | .listen | .faulted => false

/-- LISTEN, JOIN, RUN and FAULTED: the states in which the tick counts and the channels are scanned (R90, R159). -/
def StationState.clocked : StationState → Bool
  | .listen | .join | .run | .faulted => true
  | .reset | .setup | .validating => false

/-- The cause of FAULTED (R159). -/
inductive FaultCause where
  | none | duplicateAddress | line
  deriving DecidableEq, Repr

/-- The reason of a rejected START (R159, R163). -/
inductive RejectReason where
  | none | noPoints | channelDisabled | profileInvalid | sourceLimit
  deriving DecidableEq, Repr

/-- The rejection record: a reason, and a point, channel or profile number or none (R159). -/
structure Rejection where
  reason : RejectReason
  item : Option Nat
  deriving DecidableEq, Repr

/-- No rejection (R162, R172). -/
def Rejection.clear : Rejection := { reason := .none, item := none }

/-- The line rates (R142). -/
inductive LineRate where
  | kbit62 | kbit125 | kbit250 | kbit500
  deriving DecidableEq, Repr

/-- The station settings (R159, R180). `beat` is in units of 10 ms, as SET_STATION and the digest give it. -/
structure Settings where
  address : Address
  rate : LineRate
  beat : Nat
  scan : Nat
  deriving DecidableEq, Repr

/-- A (station, channel) pair: a contributor of a point, and the key of a source (R2, R19). -/
structure SourceKey where
  station : Address
  channel : Channel
  deriving DecidableEq, Repr

/-- The order of contributor lists and of the source map, and the byte of the digest stream: station × 16 + channel (R2). -/
def SourceKey.value (k : SourceKey) : Nat := k.station.val * 16 + k.channel.val

/-- How UNAVAILABLE standings count (R5). -/
inductive Policy where
  | failtrip | ignore | degrade
  deriving DecidableEq, Repr

/-- The record of one point, but for its number, which is its place in the point table (section 1.2). The direction mask
has bit 0 LOW, bit 1 HIGH, bit 2 BAND. -/
structure PointRecord where
  quorum : Nat
  mask : BitVec 3
  policy : Policy
  latched : Bool
  contributors : List SourceKey
  group : GroupNo
  confirm : Nat
  release : Nat
  deriving DecidableEq, Repr

/-- The point table: number to record, each number at most once (R1). -/
abbrev PointTable := Vector (Option PointRecord) 24

/-- The counts the station controller keeps over the point table (R1). -/
structure TableCounts where
  points : Nat
  pool : Nat
  sources : Nat
  deriving DecidableEq, Repr

/-- A BEGUN staging record (section 1.5): the point number, the seven settings and the list, held as a record that need not
obey the table's checks. -/
structure Staging where
  point : PointNo
  draft : PointRecord
  deriving DecidableEq, Repr

/-- What the station controller holds (R159, R1). -/
structure Controller where
  station : StationState
  /-- In RESET with RST high: the ms left of the start-up. None while RST holds the station in RESET, and outside RESET. -/
  startup : Option Nat
  cause : FaultCause
  rejection : Rejection
  digest : Option Half
  tick : Tick
  listen : Option Nat
  settle : Option Nat
  beatTimer : Option Nat
  settings : Settings
  points : PointTable
  counts : TableCounts
  deriving DecidableEq, Repr

/-- The class of one sample (R91). -/
inductive SampleClass where
  | normal | low | high | band | fault
  deriving DecidableEq, Repr

/-- The seven verdicts a station can send (R21). -/
inductive LineVerdict where
  | normal | low | high | band | fault | off | unsettled
  deriving DecidableEq, Repr

/-- The verdict of a source entry: a line verdict, or UNKNOWN, which has no line code (R21). -/
inductive Verdict where
  | line (v : LineVerdict)
  | unknown
  deriving DecidableEq, Repr

/-- Whether an excursion lies outside the window or inside it (R84). -/
inductive Sense where
  | outside | inside
  deriving DecidableEq, Repr

/-- A window profile (R84). -/
structure Profile where
  faultLow : Nat
  low : Nat
  high : Nat
  faultHigh : Nat
  hysteresis : Nat
  persistence : Nat
  sense : Sense
  deriving DecidableEq, Repr

/-- A channel record (R83). A candidate class of NONE is `none`. -/
structure ChannelRecord where
  enabled : Bool
  profile : ProfileNo
  contributing : Bool
  lastCode : Nat
  verdict : LineVerdict
  candidate : Option SampleClass
  count : Nat
  deriving DecidableEq, Repr

/-- The channel classifier: eight channels, eight profiles, and the scan (R83, R84, R90). -/
structure Classifier where
  channels : Vector ChannelRecord 8
  profiles : Vector Profile 8
  /-- The channels the scan in progress has still to convert, the one under conversion first. -/
  scan : List Channel
  /-- The ms left until the next scan begins. -/
  scanTimer : Option Nat
  deriving DecidableEq, Repr

/-- The items of the transmit queue (R131). -/
inductive SendItem where
  | join
  | beat
  | change (channel : Channel) (verdict : LineVerdict)
  | probe (target : Address)
  | clear (mask : PointMask)
  deriving DecidableEq, Repr

/-- The five kinds of frame (R123). -/
inductive FrameKind where
  | join | beat | change | probe | clear
  deriving DecidableEq, Repr

/-- The frame-in-flight record (R135). -/
structure InFlight where
  kind : FrameKind
  sequence : Byte
  body : List Byte
  items : List SendItem
  deriving DecidableEq, Repr

/-- The slot count (R149, R150): not kept; stopped by activity or counting the quiet time after it; or in slot `k`. -/
inductive SlotCount where
  | notKept
  | stopped
  | slot (k : Nat)
  deriving DecidableEq, Repr

/-- The receiver (R145, R146): idle; waiting since LISTEN entry, with no dominant run begun since; waiting for a frame after
another, dominant runs shorter than 10 bit times being the rest of an abandoned frame or not; timing a dominant run that began while it waited, and collecting the frame that run opens if it is a
break (the table has no row for the end of the run); or collecting a frame known to be open. At LISTEN entry a dominant level on
LRX is taken as the rest of an abandoned frame. -/
inductive Receiver where
  | idle
  | entered (afterAbandoned : Bool)
  | waiting (afterAbandoned : Bool)
  | timing (afterAbandoned : Bool)
  | collecting
  deriving DecidableEq, Repr

/-- The line controller (Chapters 7 and 8). An L of NONE is `none` (R147). -/
structure LineUnit where
  queue : List SendItem
  inFlight : Option InFlight
  lastSender : Option Address
  slots : SlotCount
  receiver : Receiver
  sequence : Byte
  aborts : Nat
  deriving DecidableEq, Repr

/-- The membership states (R104). -/
inductive PeerState where
  | self | unheard | live | gapped | silent | excluded
  deriving DecidableEq, Repr

/-- A peer entry (R103). A stopped timer is `none`, a running one its ms left. -/
structure PeerEntry where
  state : PeerState
  digest : Option Half
  channels : Option Byte
  expected : Option Byte
  lastHeard : Option Tick
  silence : Option Nat
  heal : Option Nat
  deriving DecidableEq, Repr

/-- The peer table, indexed by address (R103). -/
abbrev PeerTable := Vector PeerEntry 16

/-- Which block writes a source entry (R20). -/
inductive Origin where
  | own | line
  deriving DecidableEq, Repr

/-- One reference of a source: a point, and the position in that point's contributor list (R23). -/
structure Reference where
  point : PointNo
  position : Fin 8
  deriving DecidableEq, Repr

/-- An entry of the source map with its reference list (R20, R23). -/
structure SourceEntry where
  key : SourceKey
  verdict : Verdict
  updatedAt : Tick
  origin : Origin
  refs : List Reference
  deriving DecidableEq, Repr

/-- The value of one contributor for one point (R33). -/
inductive Standing where
  | normal | excursion | unavailable
  deriving DecidableEq, Repr

/-- The states of a point (section 3.4). -/
inductive PointState where
  | clear | arming | tripped | releasing | held
  deriving DecidableEq, Repr

/-- The kinds of a point's timer (R49). -/
inductive TimerKind where
  | confirm | release
  deriving DecidableEq, Repr

/-- A running timer of a point, with the ms left (R49). -/
structure PointTimer where
  kind : TimerKind
  remaining : Nat
  deriving DecidableEq, Repr

/-- A point context, but for the point number, which is its place (R38). -/
structure PointContext where
  state : PointState
  standings : List Standing
  excursions : Nat
  normals : Nat
  unavailables : Nat
  count : Nat
  effectiveQuorum : Nat
  timer : Option PointTimer
  deriving DecidableEq, Repr

/-- The contexts of the vote engine, indexed by point number (R38). -/
abbrev ContextTable := Vector (Option PointContext) 24

/-- What a group does on entry to FAULTED (R65, R71). -/
inductive FailAction where
  | trip | hold
  deriving DecidableEq, Repr

/-- The level of a group's pin in LISTEN and JOIN (R65, R68). -/
inductive StartState where
  | released | asserted
  deriving DecidableEq, Repr

/-- The output of a group, and so the level of its TRIP pin (R68). -/
inductive Output where
  | highImpedance | asserted | released
  deriving DecidableEq, Repr

/-- A group record (section 4.1). The asserting set is ascending, without duplicates. -/
structure Group where
  failAction : FailAction
  startState : StartState
  asserting : List PointNo
  output : Output
  deriving DecidableEq, Repr

/-- One entry of a snapshot (R55). -/
structure SnapshotEntry where
  source : SourceKey
  standing : Standing
  deriving DecidableEq, Repr

/-- What captured a first-out record (R77). -/
inductive CaptureCause where
  | tripEvent | runEntry
  deriving DecidableEq, Repr

/-- A CAPTURED first-out record (R77). -/
structure FirstOut where
  point : PointNo
  tick : Tick
  snapshot : List SnapshotEntry
  subsequent : Nat
  cause : CaptureCause
  deriving DecidableEq, Repr

/-- The trip output unit: four groups, four first-out records (EMPTY is `none`), and the press on CLR being qualified, as
the ms left of its qualification time (R65, R73, R77). -/
structure TripUnit where
  groups : Vector Group 4
  firstOut : Vector (Option FirstOut) 4
  press : Option Nat
  deriving DecidableEq, Repr

/-- The transaction state of the setup port (R174). -/
inductive Transaction where
  | waiting | closed | collecting | answering
  deriving DecidableEq, Repr

/-- The first-out read cursor: a group, and the header (`none`) or a snapshot entry (R81). -/
structure Cursor where
  group : GroupNo
  position : Option Nat
  deriving DecidableEq, Repr

/-- The setup port (R174, R183, R184, R187). The flags and the mask have bit 0 TRIP to bit 6 START_DONE (section 11.4). -/
structure SetupPort where
  transaction : Transaction
  /-- In ANSWERING, the status byte and the result bytes, copied when the request was taken (R179); else empty. -/
  answer : List Byte
  staging : Option Staging
  cursor : Cursor
  flags : BitVec 7
  mask : BitVec 7
  deriving DecidableEq, Repr

/-- The levels the outside world holds on RST, CS and CLR. -/
structure InputPins where
  rstLow : Bool
  csLow : Bool
  clrLow : Bool
  deriving DecidableEq, Repr

/-- The whole of the block, and the queue of the commands that wait. -/
structure State where
  pending : List Instr
  pins : InputPins
  ctrl : Controller
  chan : Classifier
  line : LineUnit
  peers : Option PeerTable
  sources : List SourceEntry
  contexts : ContextTable
  trip : TripUnit
  port : SetupPort
  /-- The MODEL's own: how many free choices have been made (log 11). -/
  choices : Nat
  deriving DecidableEq, Repr

/-- No command of this block ends in a fault: the manual gives every one of them an effect in every station state. The type
has no constructor. -/
inductive Fault where
  deriving DecidableEq, Repr

/-- Why a command has no meaning. -/
inductive Refusal where
  /-- Raised by an arm of `exec` whose command has no meaning yet, and by nothing else; safe. No arm raises it. -/
  | notModelled (mnemonic : String)
  deriving DecidableEq, Repr

/-! ### Values after power-on -/

/-- Nothing in the table (R17). -/
def PointTable.empty : PointTable := Vector.replicate 24 none

/-- No context (R63). -/
def ContextTable.empty : ContextTable := Vector.replicate 24 none

/-- The station settings after power-on or RST (R159, R180). -/
def Settings.powerOn : Settings := { address := 0, rate := .kbit125, beat := 10, scan := 10 }

/-- A profile after power-on or RST (R84). -/
def Profile.powerOn : Profile :=
  { faultLow := 0, low := 0, high := 0, faultHigh := 0, hysteresis := 0, persistence := 1, sense := .outside }

/-- A channel record after power-on or RST: disabled, so its verdict is OFF (R85, R100). -/
def ChannelRecord.powerOn : ChannelRecord :=
  { enabled := false, profile := 0, contributing := false, lastCode := 0, verdict := .off, candidate := none, count := 0 }

/-- A group record after power-on or RST (R65). -/
def Group.powerOn : Group :=
  { failAction := .trip, startState := .released, asserting := [], output := .highImpedance }

/-- The cursor after every reset (R82). -/
def Cursor.home : Cursor := { group := 0, position := none }

/-- The station controller in RESET (R159, R160). -/
def Controller.powerOn (startup : Option Nat) : Controller :=
  { station := .reset, startup := startup, cause := .none, rejection := .clear, digest := none, tick := 0, listen := none,
    settle := none, beatTimer := none, settings := .powerOn, points := .empty,
    counts := { points := 0, pool := 0, sources := 0 } }

/-- The classifier in RESET (R84, R100). -/
def Classifier.powerOn : Classifier :=
  { channels := Vector.replicate 8 .powerOn, profiles := Vector.replicate 8 .powerOn, scan := [], scanTimer := none }

/-- The line controller with nothing running: in RESET, and on entry to SETUP (R140, R154, R158). -/
def LineUnit.idle : LineUnit :=
  { queue := [], inFlight := none, lastSender := none, slots := .notKept, receiver := .idle, sequence := 0, aborts := 0 }

/-- The trip output unit in RESET (R65, R77). -/
def TripUnit.powerOn : TripUnit :=
  { groups := Vector.replicate 4 .powerOn, firstOut := Vector.replicate 4 none, press := none }

/-- The setup port in RESET (R187); its transaction state there is the model's (log 10). -/
def SetupPort.powerOn : SetupPort :=
  { transaction := .waiting, answer := [], staging := none, cursor := .home, flags := 0, mask := 0 }

/-- The block in RESET, every item at its power-on value (R160), with the start-up running (`some`) or held off by RST. -/
def State.inReset (pending : List Instr) (pins : InputPins) (choices : Nat) (startup : Option Nat) : State :=
  { pending := pending, pins := pins, ctrl := .powerOn startup, chan := .powerOn, line := .idle, peers := none,
    sources := [], contexts := .empty, trip := .powerOn, port := .powerOn, choices := choices }

/-- The levels on the input pins at power-on: RST held low as the procedure of section 10.11 has it, CS and CLR high
(log 9). -/
def InputPins.atPowerOn : InputPins := { rstLow := true, csLow := false, clrLow := false }

/-- The block right after power-on: in RESET, RST low, no command waiting (R160). -/
def State.reset : State := State.inReset [] .atPowerOn 0 none

/-! ### The named updates: one for each part of the state -/

/-- Replace the waiting commands. -/
def State.setPending (s : State) (q : List Instr) : State := { s with pending := q }

/-- Replace the levels on the input pins. -/
def State.setPins (s : State) (p : InputPins) : State := { s with pins := p }

/-- Replace the station controller. -/
def State.setCtrl (s : State) (c : Controller) : State := { s with ctrl := c }

/-- Replace the channel classifier. -/
def State.setChan (s : State) (c : Classifier) : State := { s with chan := c }

/-- Replace the line controller. -/
def State.setLine (s : State) (l : LineUnit) : State := { s with line := l }

/-- Replace the peer table. -/
def State.setPeers (s : State) (p : Option PeerTable) : State := { s with peers := p }

/-- Replace the verdict table. -/
def State.setSources (s : State) (l : List SourceEntry) : State := { s with sources := l }

/-- Replace the contexts of the vote engine. -/
def State.setContexts (s : State) (c : ContextTable) : State := { s with contexts := c }

/-- Replace the trip output unit. -/
def State.setTrip (s : State) (t : TripUnit) : State := { s with trip := t }

/-- Replace the setup port. -/
def State.setPort (s : State) (p : SetupPort) : State := { s with port := p }

/-- Replace the count of free choices. -/
def State.setChoices (s : State) (n : Nat) : State := { s with choices := n }

end Sys2Proof.Machine
end

