-- ==== Sys2Proof/Machine/Codes.lean ====
section
/-! DEFINITION. Machine/Codes.lean: the byte codes of sections 11.1, 11.2 and 11.4, for results and for the line. -/

namespace Sys2Proof.Machine

/-- no 0x00, yes 0x01; also ABSENT and PRESENT, EMPTY and CAPTURED. -/
def boolByte (b : Bool) : Byte := if b then 1 else 0

/-- The station state codes. RESET has none: the port serves no request there, and 0x00 stands here unread. -/
def StationState.code : StationState → Byte
  | .reset => 0 | .setup => 1 | .validating => 2 | .listen => 3 | .join => 4 | .run => 5 | .faulted => 6

/-- The fault cause codes. -/
def FaultCause.code : FaultCause → Byte
  | .none => 0 | .duplicateAddress => 1 | .line => 2

/-- The rejection record's reason codes. -/
def RejectReason.code : RejectReason → Byte
  | .none => 0 | .noPoints => 1 | .channelDisabled => 2 | .profileInvalid => 3 | .sourceLimit => 4

/-- The line rate codes. -/
def LineRate.code : LineRate → Byte
  | .kbit62 => 0 | .kbit125 => 1 | .kbit250 => 2 | .kbit500 => 3

/-- The line codes of the seven line verdicts (section 11.1). -/
def LineVerdict.code : LineVerdict → Byte
  | .normal => 0 | .low => 1 | .high => 2 | .band => 3 | .fault => 4 | .off => 5 | .unsettled => 6

/-- The verdict codes of READ_SOURCE: the line codes, and UNKNOWN 0x07. -/
def Verdict.code : Verdict → Byte
  | .line v => v.code
  | .unknown => 7

/-- The verdict a received code names; a code that is not a line verdict is written as FAULT (R28, R188). -/
def verdictOfCode (n : Nat) : LineVerdict :=
  match n with
  | 0 => .normal | 1 => .low | 2 => .high | 3 => .band | 4 => .fault | 5 => .off | 6 => .unsettled
  | _ => .fault

/-- The verdict that a class is (R93). -/
def SampleClass.verdict : SampleClass → LineVerdict
  | .normal => .normal | .low => .low | .high => .high | .band => .band | .fault => .fault

/-- The candidate class codes: the line codes, and NONE 0x0F. -/
def candidateCode : Option SampleClass → Byte
  | some c => c.verdict.code
  | none => 0x0F

/-- The point state codes. -/
def PointState.code : PointState → Byte
  | .clear => 0 | .arming => 1 | .tripped => 2 | .releasing => 3 | .held => 4

/-- The peer state codes. -/
def PeerState.code : PeerState → Byte
  | .self => 0 | .unheard => 1 | .live => 2 | .gapped => 3 | .silent => 4 | .excluded => 5

/-- The standing codes. -/
def Standing.code : Standing → Byte
  | .normal => 0 | .excursion => 1 | .unavailable => 2

/-- The absence policy codes (section 11.2). -/
def Policy.code : Policy → Byte
  | .failtrip => 0 | .ignore => 1 | .degrade => 2

/-- The direction mask as a byte: bit 0 LOW, bit 1 HIGH, bit 2 BAND, bits 7–3 zero (section 11.2). -/
def directionByte (m : BitVec 3) : Byte := m.setWidth 8

/-- The group output codes. -/
def Output.code : Output → Byte
  | .highImpedance => 0 | .asserted => 1 | .released => 2

/-- The capture cause codes. -/
def CaptureCause.code : CaptureCause → Byte
  | .tripEvent => 0 | .runEntry => 1

/-- The kind codes of frames (section 11.1). -/
def FrameKind.code : FrameKind → BitVec 4
  | .join => 1 | .beat => 2 | .change => 3 | .probe => 4 | .clear => 5

/-- L as READ_STATUS returns it: 0x00 to 0x0F, or NONE 0xFF. -/
def senderCode : Option Address → Byte
  | some a => natByte a.val
  | none => 0xFF

end Sys2Proof.Machine
end

