-- ==== Sys2Proof/Machine/Queue.lean ====
section
/-! DEFINITION. Machine/Queue.lean: the transmit queue: insertions, restores after an abort, and the frame built from its
head (sections 7.4 to 7.6). -/

namespace Sys2Proof.Machine

/-- Whether an item is a CHANGE for the channel. -/
def SendItem.isChangeOf (c : Channel) : SendItem → Bool
  | .change d _ => d == c
  | .join | .beat | .probe _ | .clear _ => false

/-- Whether an item is a CHANGE. -/
def SendItem.isChange : SendItem → Bool
  | .change _ _ => true
  | .join | .beat | .probe _ | .clear _ => false

/-- Whether an item is a PROBE. -/
def SendItem.isProbe : SendItem → Bool
  | .probe _ => true
  | .join | .beat | .change _ _ | .clear _ => false

/-- Whether an item is a CLEAR. -/
def SendItem.isClear : SendItem → Bool
  | .clear _ => true
  | .join | .beat | .change _ _ | .probe _ => false

/-- A pending CHANGE for the channel takes the new verdict, in its place (R132). -/
def SendItem.withVerdict (c : Channel) (v : LineVerdict) (i : SendItem) : SendItem :=
  if i.isChangeOf c then .change c v else i

/-- A pending CLEAR takes the union of its mask and the new one, in its place (R132). -/
def SendItem.orMask (m : PointMask) : SendItem → SendItem
  | .clear n => .clear (n ||| m)
  | .join => .join
  | .beat => .beat
  | .change c v => .change c v
  | .probe t => .probe t

/-- One insertion into the pending items (R132). -/
def queueInsert (i : SendItem) (q : List SendItem) : List SendItem :=
  match i with
  | .join => q ++ [.join]
  | .beat => if q.contains .beat then q else q ++ [.beat]
  | .change c v => if q.any (·.isChangeOf c) then q.map (·.withVerdict c v) else q ++ [.change c v]
  | .probe t =>
    if q.contains (.probe t) || Config.probeLimit ≤ q.countP (·.isProbe) then q else q ++ [.probe t]
  | .clear m => if q.any (·.isClear) then q.map (·.orMask m) else q ++ [.clear m]

/-- Insertions are taken in JOIN and RUN; in every other state they have no effect (R132, R140). -/
def insertItem (i : SendItem) (s : State) : State :=
  if s.ctrl.station.voting then s.setLine { s.line with queue := queueInsert i s.line.queue } else s

/-- One item of an aborted frame judged against the pending items (`.2`) and those already restored (`.1`) (R137). -/
def restoreItem (acc : List SendItem × List SendItem) (i : SendItem) : List SendItem × List SendItem :=
  match i with
  | .join => (acc.1 ++ [.join], acc.2)
  | .beat => if acc.2.contains .beat then acc else (acc.1 ++ [.beat], acc.2)
  | .change c v => if acc.2.any (·.isChangeOf c) then acc else (acc.1 ++ [.change c v], acc.2)
  | .probe t =>
    if acc.2.contains (.probe t) || Config.probeLimit ≤ acc.1.countP (·.isProbe) + acc.2.countP (·.isProbe) then acc
    else (acc.1 ++ [.probe t], acc.2)
  | .clear m => if acc.2.any (·.isClear) then (acc.1, acc.2.map (·.orMask m)) else (acc.1 ++ [.clear m], acc.2)

/-- The queue after an abort: the items restored, in the order they held in the frame, ahead of the pending ones (R137). -/
def restoreItems (items pending : List SendItem) : List SendItem :=
  let acc := items.foldl restoreItem ([], pending)
  acc.1 ++ acc.2

/-- A set of channels as a byte, bit k being channel k (section 11.1). -/
def channelSet (f : Channel → Bool) : Byte :=
  (List.finRange 8).foldl (fun m c => if f c then m ||| (1#8 <<< c.val) else m) 0#8

/-- The contributing-channel mask a JOIN carries (R124). -/
def contributingMask (ch : Classifier) : Byte := channelSet fun c => ch.channels[c].contributing

/-- The verdict codes a BEAT carries: all eight channel records as they stand (R98, R125). -/
def verdictCodes (ch : Classifier) : List Byte := (List.finRange 8).map fun c => ch.channels[c].verdict.code

/-- The digest a JOIN or BEAT carries. -/
def State.digestBytes (s : State) : List Byte := halfBytes (s.ctrl.digest.getD 0)

/-- The entry byte of a CHANGE item: channel, verdict code (section 11.1). -/
def changeEntry : SendItem → Option Byte
  | .change c v => some (nibbles (BitVec.ofNat 4 c.val) (lowNibble v.code))
  | .join | .beat | .probe _ | .clear _ => none

/-- The target byte of a PROBE item. -/
def probeTarget : SendItem → Option Byte
  | .probe t => some (natByte t.val)
  | .join | .beat | .change _ _ | .clear _ => none

/-- A frame as built: its kind, its body, the items the record holds, the items left in the queue (R134, R135). -/
structure BuiltFrame where
  kind : FrameKind
  body : List Byte
  items : List SendItem
  rest : List SendItem
  deriving DecidableEq, Repr

/-- The frame built from the head item and those that share its frame (R134). The CHANGE items a BEAT absorbs leave the
queue and are not held (R135). -/
def buildFrame (s : State) : Option BuiltFrame :=
  match s.line.queue with
  | [] => none
  | .join :: rest =>
    some { kind := .join, body := s.digestBytes ++ [natByte s.ctrl.settings.beat, contributingMask s.chan], items := [.join],
           rest := rest }
  | .beat :: rest =>
    some { kind := .beat, body := s.digestBytes ++ verdictCodes s.chan, items := [.beat],
           rest := rest.filter fun i => !i.isChange }
  | .change c v :: rest =>
    let taken := .change c v :: rest.filter (·.isChange)
    some { kind := .change, body := natByte taken.length :: taken.filterMap changeEntry, items := taken,
           rest := rest.filter fun i => !i.isChange }
  | .probe t :: rest =>
    let taken := .probe t :: rest.filter (·.isProbe)
    some { kind := .probe, body := natByte taken.length :: taken.filterMap probeTarget, items := taken,
           rest := rest.filter fun i => !i.isProbe }
  | .clear m :: rest => some { kind := .clear, body := maskBytes m, items := [.clear m], rest := rest }

/-- Start a frame: the items leave the queue, the frame takes the sequence counter's value and the counter advances (R134,
R136). The own transmission is line activity (R149), and what is read back counts as received (R153). -/
def startFrame (s : State) : State :=
  match buildFrame s with
  | none => s
  | some f =>
    s.setLine { s.line with
      queue := f.rest
      inFlight := some { kind := f.kind, sequence := s.line.sequence, body := f.body, items := f.items }
      sequence := s.line.sequence + 1
      slots := .stopped
      receiver := .collecting }

/-- The characters of the frame in flight, check value included (R123, R135). -/
def InFlight.characters (f : InFlight) (own : Address) : List Byte := frameCharacters f.kind.code own f.sequence f.body

end Sys2Proof.Machine
end

