-- ==== Sys2Proof/Machine/Flags.lean ====
section
/-! DEFINITION. Machine/Flags.lean: the event flags, the mask, and the pins that are computed from the state: INT, SDO, LTX
and TRIP0 to TRIP3 (log 20). -/

namespace Sys2Proof.Machine

/-- The seven event flags (section 10.6). -/
inductive EventFlag where
  | trip | firstOut | peer | digest | refused | fault | startDone
  deriving DecidableEq, Repr

/-- The place of a flag in the flags byte and the mask (section 11.4). -/
def EventFlag.place : EventFlag → Nat
  | .trip => 0 | .firstOut => 1 | .peer => 2 | .digest => 3 | .refused => 4 | .fault => 5 | .startDone => 6

/-- The set that holds one flag. -/
def EventFlag.bit (f : EventFlag) : BitVec 7 := 1#7 <<< f.place

/-- Set one flag; a flag already set stays set (R183). -/
def setFlag (f : EventFlag) (s : State) : State := s.setPort { s.port with flags := s.port.flags ||| f.bit }

/-- Set one flag if a condition holds. -/
def setFlagIf (c : Bool) (f : EventFlag) (s : State) : State := if c then setFlag f s else s

/-- Whether a flag is set. -/
def State.flagSet (s : State) (f : EventFlag) : Bool := s.port.flags.getLsbD f.place

/-- INT is driven low while a set flag lies in the mask, and high otherwise (R185). -/
def State.intLow (s : State) : Bool := s.port.flags &&& s.port.mask != 0#7

/-- Whether the part drives SDO, which is high-impedance in RESET, WAITING and CLOSED (R160, R174). -/
def State.sdoDriven (s : State) : Bool :=
  s.ctrl.station != .reset && (s.port.transaction == .collecting || s.port.transaction == .answering)

/-- The byte SDO drives while the host clocks byte `k` after the request was taken (in ANSWERING), or any byte before it (in
COLLECTING): the status byte, the result bytes, then 0x00 (R174, R175, R190). None where SDO is high-impedance. -/
def State.sdoByte (s : State) (k : Nat) : Option Byte :=
  if s.sdoDriven then some (if s.port.transaction = .answering then s.port.answer.getD k 0 else 0) else none

/-- The level of SDO, high being true, when the host samples its `n`-th bit after the request was taken: bytes travel most
significant bit first (R174). None where SDO is high-impedance. -/
def State.sdoBit (s : State) (n : Nat) : Option Bool := (s.sdoByte (n / 8)).bind fun b => (byteBits b)[n % 8]?

/-- Whether the station transmits: with no own frame in flight, LTX commands recessive (R142, R158). -/
def State.transmitting (s : State) : Bool := s.line.inFlight.isSome

/-- The level of a TRIP pin is its group's output (R68, R192). -/
def State.tripPin (s : State) (g : GroupNo) : Output := s.trip.groups[g].output

end Sys2Proof.Machine
end

