-- ==== Sys2Proof/Machine/Trip.lean ====
section
/-! DEFINITION. Machine/Trip.lean: the trip output unit: asserting sets, outputs, first-out records, fail actions
(chapter 4). -/

namespace Sys2Proof.Machine

/-- Insert a point into an ascending set. -/
def insertPoint (p : PointNo) : List PointNo → List PointNo
  | [] => [p]
  | q :: l => if p < q then p :: q :: l else if p = q then q :: l else q :: insertPoint p l

/-- The states in which a point asserts its group (R67). -/
def PointState.asserting : PointState → Bool
  | .tripped | .releasing | .held => true
  | .clear | .arming => false

/-- The asserting set after a report (R67). -/
def assertingAfter (p : PointNo) (after : PointState) (l : List PointNo) : List PointNo :=
  if after.asserting then insertPoint p l else l.filter fun q => q != p

/-- Replace one group record. -/
def setGroupRecord (g : GroupNo) (r : Group) (s : State) : State :=
  s.setTrip { s.trip with groups := setAt s.trip.groups g r }

/-- The output of a group in RUN after its set went from `before` to `after` (R69). -/
def outputAfter (before after : List PointNo) (o : Output) : Output :=
  if before.isEmpty && !after.isEmpty then .asserted
  else if !before.isEmpty && after.isEmpty then .released
  else o

/-- Take a state report: the asserting set in JOIN and RUN, and in RUN the output, with TRIP set when it becomes asserted
(R67, R69). -/
def takeReport (p : PointNo) (g : GroupNo) (after : PointState) (s : State) : State :=
  let r := s.trip.groups[g]
  let l := assertingAfter p after r.asserting
  if s.ctrl.station = .run then
    setFlagIf (r.asserting.isEmpty && !l.isEmpty) .trip
      (setGroupRecord g { r with asserting := l, output := outputAfter r.asserting l r.output } s)
  else setGroupRecord g { r with asserting := l } s

/-- The cursor returns to the header if it is on the group (R82). -/
def rewindCursor (g : GroupNo) (s : State) : State :=
  if s.port.cursor.group = g then s.setPort { s.port with cursor := { s.port.cursor with position := none } } else s

/-- Replace one first-out record. -/
def setFirstOut (g : GroupNo) (r : Option FirstOut) (s : State) : State :=
  s.setTrip { s.trip with firstOut := setAt s.trip.firstOut g r }

/-- Capture a first-out record; the cursor of its group returns to the header (R70, R78, R82). -/
def captureFirstOut (g : GroupNo) (r : FirstOut) (s : State) : State := rewindCursor g (setFirstOut g (some r) s)

/-- The contributor list paired with the standing list (R55). -/
def snapshotOf (r : PointRecord) (standings : List Standing) : List SnapshotEntry :=
  (r.contributors.zip standings).map fun e => { source := e.1, standing := e.2 }

/-- Take a trip event record: in RUN it captures an EMPTY record, or raises the count of a CAPTURED one; in JOIN it is
discarded (R78, R79). -/
def takeTripEvent (p : PointNo) (r : PointRecord) (standings : List Standing) (s : State) : State :=
  if s.ctrl.station = .run then
    match s.trip.firstOut[r.group] with
    | none =>
      setFlag .firstOut (captureFirstOut r.group
        { point := p, tick := s.ctrl.tick, snapshot := snapshotOf r standings, subsequent := 0, cause := .tripEvent } s)
    | some f =>
      setFirstOut r.group (some { f with subsequent := min (f.subsequent + 1) Config.subsequentLimit }) s
  else s

/-- The first-out record captured for a group at RUN entry: its lowest asserting point (R70). -/
def runEntryRecord (s : State) (g : GroupNo) : Option FirstOut :=
  match s.trip.groups[g].asserting with
  | [] => none
  | p :: l =>
    match s.ctrl.points[p], s.contexts[p] with
    | some r, some c =>
      some { point := p, tick := s.ctrl.tick, snapshot := snapshotOf r c.standings, subsequent := l.length, cause := .runEntry }
    | _, _ => none

/-- A group's record at RUN entry: its output takes the level its set calls for (R70). -/
def Group.atRunEntry (r : Group) : Group := { r with output := if r.asserting.isEmpty then .released else .asserted }

/-- The capture of one group at RUN entry (R70). -/
def captureAtRunEntry (s : State) (g : GroupNo) : State :=
  match runEntryRecord s g with
  | some f => captureFirstOut g f s
  | none => s

/-- RUN entry at the trip output unit: outputs, captures, and TRIP and FIRST_OUT if any set is not empty (R70). -/
def runEntryOutputs (s : State) : State :=
  let s1 := s.setTrip { s.trip with groups := mapTable Group.atRunEntry s.trip.groups }
  let s2 := (List.finRange 4).foldl captureAtRunEntry s1
  let any := (List.finRange 4).any fun g => !s.trip.groups[g].asserting.isEmpty
  setFlagIf any .firstOut (setFlagIf any .trip s2)

/-- A group's record at LISTEN entry: the set is empty, the pin takes its start state (R68, R164). -/
def Group.atListenEntry (r : Group) : Group :=
  { r with asserting := [], output := match r.startState with
                                      | .asserted => .asserted
                                      | .released => .released }

/-- A group's record at entry to FAULTED (R71). -/
def Group.atFaultedEntry (r : Group) : Group :=
  match r.failAction with
  | .trip => { r with output := .asserted }
  | .hold => r

/-- A group's record on entry to SETUP: the settings are kept (R65, R68). -/
def Group.atSetupEntry (r : Group) : Group := { r with asserting := [], output := .highImpedance }

end Sys2Proof.Machine
end

