-- ==== Sys2Proof/Machine/Engine.lean ====
section
/-! DEFINITION. Machine/Engine.lean: the vote engine: standings, counts, the point state machine, evaluations and clears
(chapter 3). -/

namespace Sys2Proof.Machine

/-- Whether a direction mask holds a verdict (R4). -/
def maskHolds (m : BitVec 3) : LineVerdict → Bool
  | .low => m.getLsbD 0
  | .high => m.getLsbD 1
  | .band => m.getLsbD 2
  | .normal | .fault | .off | .unsettled => false

/-- The standing a verdict gives through a direction mask (R34). -/
def standingOfVerdict (m : BitVec 3) : Verdict → Standing
  | .line .low => if maskHolds m .low then .excursion else .normal
  | .line .high => if maskHolds m .high then .excursion else .normal
  | .line .band => if maskHolds m .band then .excursion else .normal
  | .line .normal => .normal
  | .line .fault => .unavailable
  | .line .off => .unavailable
  | .line .unsettled => .unavailable
  | .unknown => .unavailable

/-- The standing of a contributor from the state of its source's station and its source's verdict (R33). -/
def standingOf (p : PeerState) (v : Verdict) (m : BitVec 3) : Standing :=
  match p with
  | .self | .live | .gapped => standingOfVerdict m v
  | .unheard | .silent | .excluded => .unavailable

/-- The state of a station in a peer table; with no table standing, SELF at the own address and UNHEARD elsewhere (R122). -/
def stationState (own : Address) (t : Option PeerTable) (a : Address) : PeerState :=
  match t with
  | some v => v[a].state
  | none => if a = own then .self else .unheard

/-- The count and the effective quorum of a point (R40). -/
def countAndQuorum (p : Policy) (q e u : Nat) : Nat × Nat :=
  match p with
  | .failtrip => (e + u, q)
  | .ignore => (e, q)
  | .degrade => (e, max 1 (q - u))

/-- A context with a new standing list, its counts recomputed (R40). -/
def recount (r : PointRecord) (l : List Standing) (c : PointContext) : PointContext :=
  let e := l.count .excursion
  let u := l.count .unavailable
  let k := countAndQuorum r.policy r.quorum e u
  { c with standings := l, excursions := e, normals := l.count .normal, unavailables := u, count := k.1,
           effectiveQuorum := k.2 }

/-- The quorum is reached when the count equals the effective quorum or exceeds it (R40). -/
def PointContext.reached (c : PointContext) : Bool := c.effectiveQuorum ≤ c.count

/-- A context in CLEAR over a standing list. -/
def clearContext (r : PointRecord) (l : List Standing) : PointContext :=
  recount r l { state := .clear, standings := [], excursions := 0, normals := 0, unavailables := 0, count := 0,
                effectiveQuorum := 0, timer := none }

/-- A context as built: CLEAR, every standing UNAVAILABLE (R39). -/
def builtContext (r : PointRecord) : PointContext := clearContext r (r.contributors.map fun _ => .unavailable)

/-- The contexts built at START, one for each point present (R38, R39). -/
def buildContexts (t : PointTable) : ContextTable := mapTable (fun o : Option PointRecord => o.map builtContext) t

/-- Why a point is evaluated (R41): its counts were looked at afresh (a notice, JOIN entry), a timer expired, or a clear. -/
inductive Cause where
  | counts | confirmExpiry | releaseExpiry | clear
  deriving DecidableEq, Repr

/-- The one transition an evaluation makes: the state and the timer after it (R44 to R48, R52). -/
def transition (r : PointRecord) (c : PointContext) (why : Cause) : PointState × Option PointTimer :=
  match why, c.state with
  | .counts, .clear =>
    if c.reached then (if r.confirm = 0 then (.tripped, none) else (.arming, some { kind := .confirm, remaining := r.confirm }))
    else (.clear, c.timer)
  | .counts, .arming => if c.reached then (.arming, c.timer) else (.clear, none)
  | .counts, .tripped =>
    if c.reached then (.tripped, c.timer)
    else if r.latched then (.held, none)
    else if r.release = 0 then (.clear, none)
    else (.releasing, some { kind := .release, remaining := r.release })
  | .counts, .releasing => if c.reached then (.tripped, none) else (.releasing, c.timer)
  | .counts, .held => if c.reached then (.tripped, none) else (.held, c.timer)
  | .confirmExpiry, .arming => (.tripped, none)
  | .confirmExpiry, .clear => (.clear, c.timer)
  | .confirmExpiry, .tripped => (.tripped, c.timer)
  | .confirmExpiry, .releasing => (.releasing, c.timer)
  | .confirmExpiry, .held => (.held, c.timer)
  | .releaseExpiry, .releasing => (.clear, none)
  | .releaseExpiry, .clear => (.clear, c.timer)
  | .releaseExpiry, .arming => (.arming, c.timer)
  | .releaseExpiry, .tripped => (.tripped, c.timer)
  | .releaseExpiry, .held => (.held, c.timer)
  | .clear, .held => (.clear, none)
  | .clear, .clear => (.clear, c.timer)
  | .clear, .arming => (.arming, c.timer)
  | .clear, .tripped => (.tripped, c.timer)
  | .clear, .releasing => (.releasing, c.timer)

/-- A clear that reaches a latched point in TRIPPED is refused (R52). -/
def clearRefused (r : PointRecord) (c : PointContext) (why : Cause) : Bool :=
  why == .clear && c.state == .tripped && r.latched

/-- A trip event is the entry into TRIPPED from CLEAR or from ARMING (R55). -/
def isTripEvent (before after : PointState) : Bool := after == .tripped && (before == .clear || before == .arming)

/-- What one evaluation leaves and reports, the counts being recomputed already: the context, the state report, the trip
event, the refusal (R41, R52, R54, R55). -/
def settleEvaluation (p : PointNo) (r : PointRecord) (c : PointContext) (why : Cause) (s : State) : State :=
  let t := transition r c why
  let s1 := s.setContexts (setAt s.contexts p (some { c with state := t.1, timer := t.2 }))
  let s2 := if t.1 = c.state then s1 else takeReport p r.group t.1 s1
  let s3 := if isTripEvent c.state t.1 then takeTripEvent p r c.standings s2 else s2
  setFlagIf (clearRefused r c why) .refused s3

/-- Evaluate a point: its standing list is rewritten first, where the cause says so (R41). A point with no record or no
context is not evaluated. -/
def evaluate (p : PointNo) (why : Cause) (rewrite : PointRecord → List Standing → List Standing) (s : State) : State :=
  match s.ctrl.points[p], s.contexts[p] with
  | some r, some c => settleEvaluation p r (recount r (rewrite r c.standings) c) why s
  | _, _ => s

/-- Evaluate a point on a timer expiry or a clear: the counts are unchanged (R41). -/
def evaluateAsCounted (p : PointNo) (why : Cause) (s : State) : State :=
  match s.ctrl.points[p], s.contexts[p] with
  | some r, some c => settleEvaluation p r c why s
  | _, _ => s

/-- One change of a notice: the point, the position, the standing before and after (R35, R42). -/
structure Change where
  point : PointNo
  position : Fin 8
  before : Standing
  after : Standing
  deriving DecidableEq, Repr

/-- A standing notice (R35). -/
structure Notice where
  point : PointNo
  changes : List Change
  deriving DecidableEq, Repr

/-- Write each change of a notice into the standing list (R42). -/
def writeChanges (cs : List Change) (l : List Standing) : List Standing :=
  cs.foldl (fun l c => l.set c.position.val c.after) l

/-- Take one notice: one evaluation of its point (R41, R42). -/
def takeNotice (s : State) (n : Notice) : State := evaluate n.point .counts (fun _ l => writeChanges n.changes l) s

/-- The verdict of a key; UNKNOWN where the table has no such entry. -/
def verdictOfKey (l : List SourceEntry) (k : SourceKey) : Verdict :=
  match l.find? fun e => e.key == k with
  | some e => e.verdict
  | none => .unknown

/-- The standings of a record's contributors, derived afresh from the verdict table and the peer table (R59). -/
def derivedStandings (s : State) (r : PointRecord) : List Standing :=
  r.contributors.map fun k =>
    standingOf (stationState s.ctrl.settings.address s.peers k.station) (verdictOfKey s.sources k) r.mask

/-- JOIN entry for one point (R59). -/
def joinEntryPoint (s : State) (p : PointNo) : State := evaluate p .counts (fun r _ => derivedStandings s r) s

/-- JOIN entry at the vote engine: every point once, in ascending point number (R59). -/
def evaluateAll (s : State) : State := (List.finRange 24).foldl joinEntryPoint s

/-- One clear at the vote engine (R48, R52). -/
def clearPoint (s : State) (p : PointNo) : State := evaluateAsCounted p .clear s

/-- Take a clear mask: in RUN one clear for each point named, in any other state nothing (R72). DESIGN CHOICE (log 33): the mask
is handed on and evaluated whole in the one step that takes it, so no entry to FAULTED falls inside it and none of its clears is
ever discarded (R76). -/
def takeClearMask (m : PointMask) (s : State) : State :=
  if s.ctrl.station = .run then ((List.finRange 24).filter fun p => m.getLsbD p.val).foldl clearPoint s else s

end Sys2Proof.Machine
end

