-- ==== Sys2Proof/Machine/Table.lean ====
section
/-! DEFINITION. Machine/Table.lean: the point table: walks, counts, the keys it names, the digest, and what the build of
START derives from it. -/

namespace Sys2Proof.Machine

/-- The records present, in ascending point number: the order of every walk of the table (R1). -/
def presentRecords (t : PointTable) : List (PointNo × PointRecord) :=
  (List.finRange 24).filterMap fun p => t[p].map fun r => (p, r)

/-- The contributor entries of all records, record by record: the contributor pool (R1). -/
def poolEntries (t : PointTable) : List SourceKey := (presentRecords t).flatMap fun e => e.2.contributors

/-- Contributor lists are sorted ascending by station, and by channel within a station (R2, R14). -/
def sortKeys (l : List SourceKey) : List SourceKey := l.insertionSort fun a b => a.value ≤ b.value

/-- The distinct pairs of a list, in ascending order. -/
def distinctKeys (l : List SourceKey) : List SourceKey := (sortKeys l).dedup

/-- The counts of a table (R1). -/
def countTable (t : PointTable) : TableCounts :=
  { points := (presentRecords t).length, pool := (poolEntries t).length, sources := (distinctKeys (poolEntries t)).length }

/-- Put a table in place, its counts recalculated (R1, R14, R15). -/
def Controller.withTable (c : Controller) (t : PointTable) : Controller := { c with points := t, counts := countTable t }

/-- The length of the list held for a point, 0 if none (R13, check 6). -/
def heldLength (t : PointTable) (p : PointNo) : Nat :=
  match t[p] with
  | some r => r.contributors.length
  | none => 0

/-- Whether a present record names the pair. -/
def tableNames (t : PointTable) (k : SourceKey) : Bool := (poolEntries t).contains k

/-- The direction mask of a point; empty for an absent one. -/
def maskOfPoint (t : PointTable) (p : PointNo) : BitVec 3 :=
  match t[p] with
  | some r => r.mask
  | none => 0

/-! ### The digest -/

/-- The bytes of one record in the digest stream (R128, section 11.2). -/
def recordBytes (p : PointNo) (r : PointRecord) : List Byte :=
  [natByte p.val, natByte r.quorum, directionByte r.mask, r.policy.code, boolByte r.latched, natByte r.contributors.length]
    ++ r.contributors.map fun k => natByte k.value

/-- The digest stream: the beat interval, then the shared fields of the records present (R8, R128). -/
def digestStream (beat : Nat) (t : PointTable) : List Byte :=
  natByte beat :: (presentRecords t).flatMap fun e => recordBytes e.1 e.2

/-- The digest (R128, R189). -/
def digestOf (beat : Nat) (t : PointTable) : Half := crc16 (digestStream beat t)

/-! ### The verdict table as built (R22 to R24) -/

/-- The references of a source: one for each point whose list names it, in ascending point number (R23). -/
def referencesOf (t : PointTable) (k : SourceKey) : List Reference :=
  (presentRecords t).filterMap fun e =>
    if e.2.contributors.contains k then
      (indexBelow 8 (e.2.contributors.idxOf k)).map fun i => { point := e.1, position := i }
    else none

/-- A source entry as built: UNSETTLED if own, UNKNOWN if not, updated at 0 (R20, R24). -/
def builtEntry (own : Address) (t : PointTable) (k : SourceKey) : SourceEntry :=
  if k.station = own then
    { key := k, verdict := .line .unsettled, updatedAt := 0, origin := .own, refs := referencesOf t k }
  else
    { key := k, verdict := .unknown, updatedAt := 0, origin := .line, refs := referencesOf t k }

/-- The verdict table built at START, in ascending key value (R19, R22). -/
def buildSources (own : Address) (t : PointTable) : List SourceEntry :=
  (distinctKeys (poolEntries t)).map (builtEntry own t)

/-! ### The peer table as built (R104) -/

/-- A peer entry as built: SELF at the own address, UNHEARD elsewhere, nothing heard, timers stopped (R103, R104). -/
def builtPeer (own a : Address) : PeerEntry :=
  { state := if a = own then .self else .unheard, digest := none, channels := none, expected := none, lastHeard := none,
    silence := none, heal := none }

/-- The peer table built at START (R104). -/
def buildPeers (own : Address) : PeerTable := Vector.ofFn (builtPeer own)

/-! ### Checks of START (R163) -/

/-- A profile is valid when its limits are in order and its hysteresis narrow enough (R84). -/
def Profile.valid (p : Profile) : Bool :=
  p.faultLow < p.low && p.low < p.high && p.high < p.faultHigh && 2 * p.hysteresis < p.high - p.low

/-- Check 2: the first channel named by an own contributor that is disabled (R87, R163). -/
def disabledContributor (own : Address) (t : PointTable) (channels : Vector ChannelRecord 8) : Option Channel :=
  (List.finRange 8).find? fun c => tableNames t { station := own, channel := c } && !channels[c].enabled

/-- Check 3: the profile of the first enabled channel whose profile is not valid (R87, R163). -/
def invalidProfile (channels : Vector ChannelRecord 8) (profiles : Vector Profile 8) : Option ProfileNo :=
  ((List.finRange 8).find? fun c => channels[c].enabled && !profiles[channels[c].profile].valid).map fun c => channels[c].profile

/-- How many distinct pairs the records up to and including point `p` name. -/
def sourcesUpTo (t : PointTable) (p : PointNo) : Nat :=
  (distinctKeys (((presentRecords t).filter fun e => e.1 ≤ p).flatMap fun e => e.2.contributors)).length

/-- Check 4: the first point whose contributors bring the count of distinct pairs above 48 (R163). -/
def sourceLimitPoint (t : PointTable) : Option PointNo :=
  ((presentRecords t).map (·.1)).find? fun p => Config.sourceLimit < sourcesUpTo t p

/-- The first failed check of START, as a rejection record; none when every check passes (R163). -/
def startRejection (c : Controller) (ch : Classifier) : Option Rejection :=
  if presentRecords c.points = [] then some { reason := .noPoints, item := none }
  else match disabledContributor c.settings.address c.points ch.channels with
    | some k => some { reason := .channelDisabled, item := some k.val }
    | none =>
      match invalidProfile ch.channels ch.profiles with
      | some f => some { reason := .profileInvalid, item := some f.val }
      | none =>
        match sourceLimitPoint c.points with
        | some p => some { reason := .sourceLimit, item := some p.val }
        | none => none

end Sys2Proof.Machine
end

