-- ==== Sys2Proof/Machine/Verdicts.lean ====
section
/-! DEFINITION. Machine/Verdicts.lean: the verdict table: updates, the notices they pass, and the peer entries an update
may carry a state for (chapter 2). -/

namespace Sys2Proof.Machine

/-- One write of an update: a key and a verdict (R26). -/
structure Write where
  key : SourceKey
  verdict : Verdict
  deriving DecidableEq, Repr

/-- The last write of an update to a key (R26): none where the update does not write it. -/
def lastWrite (ws : List Write) (k : SourceKey) : Option Verdict :=
  ((ws.filter fun w => w.key == k).getLast?).map (·.verdict)

/-- An entry after an update: updated-at becomes the tick of the update where the verdict differs (R20, R26). -/
def entryAfter (tick : Tick) (ws : List Write) (e : SourceEntry) : SourceEntry :=
  match lastWrite ws e.key with
  | none => e
  | some v => if v = e.verdict then e else { e with verdict := v, updatedAt := tick }

/-- The changed standings of one entry's references: before from the verdict and the station's state at the start of the
update, after from those at its end (R35). -/
def entryChanges (t : PointTable) (before after : PeerState) (e e' : SourceEntry) : List Change :=
  e.refs.filterMap fun r =>
    let m := maskOfPoint t r.point
    let b := standingOf before e.verdict m
    let a := standingOf after e'.verdict m
    if b = a then none else some { point := r.point, position := r.position, before := b, after := a }

/-- The changes of a whole update. A reference that R26 does not name keeps its standing, so every entry may be compared. -/
def updateChanges (own : Address) (t : PointTable) (before after : Option PeerTable) (tick : Tick) (ws : List Write)
    (l : List SourceEntry) : List Change :=
  l.flatMap fun e =>
    entryChanges t (stationState own before e.key.station) (stationState own after e.key.station) e (entryAfter tick ws e)

/-- One notice for each point with a changed standing, its changes in ascending position (R35). Entries stand in the order
of contributor lists (R19), so their changes do. -/
def noticesOf (cs : List Change) : List Notice :=
  (List.finRange 24).filterMap fun p =>
    let mine := cs.filter fun c => c.point == p
    if mine = [] then none else some { point := p, changes := mine }

/-- Insert a notice by the order value of its point. -/
def insertNotice (key : Nat → Nat) (n : Notice) : List Notice → List Notice
  | [] => [n]
  | m :: l => if key n.point.val ≤ key m.point.val then n :: m :: l else m :: insertNotice key n l

/-- The notices of one update in the order the engine takes them: a free order (R35, R43; log 5). -/
def orderNotices (key : Nat → Nat) (l : List Notice) : List Notice := l.foldr (insertNotice key) []

/-- The peer table with one entry replaced; no table stays none. -/
def withPeer (a : Address) (e : PeerEntry) (t : Option PeerTable) : Option PeerTable := t.map fun v => setAt v a e

/-- Replace one entry of the peer table. -/
def setPeer (a : Address) (e : PeerEntry) (s : State) : State := s.setPeers (withPeer a e s.peers)

/-- One update of the verdict table: the writes, and the peer table as it stands with the state the update carries. In JOIN
and RUN its notices are taken (R26, R35, R36). DESIGN CHOICE (log 36): the update is one step, so where its reports empty a group's
asserting set and fill it again, the level its pin shows between them is in no state (R192). -/
def applyUpdate (ws : List Write) (after : Option PeerTable) (s : State) : State :=
  let cs := updateChanges s.ctrl.settings.address s.ctrl.points s.peers after s.ctrl.tick ws s.sources
  let s1 := (s.setSources (s.sources.map (entryAfter s.ctrl.tick ws))).setPeers after
  if s.ctrl.station.voting then
    (orderNotices (Config.noticeOrder s.choices) (noticesOf cs)).foldl takeNotice (s1.setChoices (s.choices + 1))
  else s1

/-- The writes that discard a peer's sources: UNKNOWN to every LINE entry of the peer (R31). -/
def discardWrites (a : Address) (l : List SourceEntry) : List Write :=
  (l.filter fun e => e.key.station == a && e.origin == .line).map fun e => { key := e.key, verdict := .unknown }

/-- The writes that load a BEAT: every key of the sender takes the verdict the BEAT carries for its channel (R30). -/
def beatWrites (a : Address) (codes : Vector Byte 8) (l : List SourceEntry) : List Write :=
  (l.filter fun e => e.key.station == a).map fun e =>
    { key := e.key, verdict := .line (verdictOfCode codes[e.key.channel].toNat) }

/-- The line write of one CHANGE entry; none for a channel nibble above 7 (R28, R29, R188). -/
def changeWrite (a : Address) (entry : Byte) : Option Write :=
  (indexBelow 8 (highNibble entry).toNat).map fun c =>
    { key := { station := a, channel := c }, verdict := .line (verdictOfCode (lowNibble entry).toNat) }

/-- The line writes of a CHANGE body, in body order (R29). -/
def changeWrites (a : Address) (entries : List Byte) : List Write := entries.filterMap (changeWrite a)

end Sys2Proof.Machine
end

