-- ==== Sys2Proof/Machine/Ops.lean ====
section
/-! DEFINITION. Machine/Ops.lean: the passing of time, the answers of the setup port, and the entries to the station states
(chapters 9 and 10). -/

namespace Sys2Proof.Machine

/-! ### Time (log 1 to 3) -/

/-- A timer after `n` ms: a running one comes nearer to its expiry, and waits at 0 for it; a stopped one stays stopped. -/
def runDown (n : Nat) (t : Option Nat) : Option Nat := t.map fun r => r - n

/-- A point's timer after `n` ms (R49). -/
def PointContext.runDown (n : Nat) (c : PointContext) : PointContext :=
  { c with timer := c.timer.map fun t => { t with remaining := t.remaining - n } }

/-- A peer's timers after `n` ms (R115, R116). -/
def PeerEntry.runDown (n : Nat) (e : PeerEntry) : PeerEntry :=
  { e with silence := Machine.runDown n e.silence, heal := Machine.runDown n e.heal }

/-- The station controller after `n` ms: the tick counts in LISTEN, JOIN, RUN and FAULTED (R159). -/
def Controller.runDown (n : Nat) (c : Controller) : Controller :=
  { c with
    tick := if c.station.clocked then c.tick + BitVec.ofNat 32 n else c.tick
    startup := Machine.runDown n c.startup
    listen := Machine.runDown n c.listen
    settle := Machine.runDown n c.settle
    beatTimer := Machine.runDown n c.beatTimer }

/-- The contexts after `n` ms: point timers run in JOIN and RUN (R49, R62). -/
def runContexts (n : Nat) (st : StationState) (t : ContextTable) : ContextTable :=
  if st.voting then mapTable (fun o : Option PointContext => o.map (PointContext.runDown n)) t else t

/-- The peer table after `n` ms: peer timers run in LISTEN, JOIN and RUN (R120). -/
def runPeers (n : Nat) (st : StationState) (t : Option PeerTable) : Option PeerTable :=
  if st.online then t.map (mapTable (PeerEntry.runDown n)) else t

/-- `n` ms pass. -/
def elapse (n : Nat) (s : State) : State :=
  ((((s.setCtrl (s.ctrl.runDown n)).setChan { s.chan with scanTimer := runDown n s.chan.scanTimer }).setTrip
      { s.trip with press := runDown n s.trip.press }).setContexts (runContexts n s.ctrl.station s.contexts)).setPeers
    (runPeers n s.ctrl.station s.peers)

/-- The beat interval in ms (R159). -/
def State.beatMs (s : State) : Nat := 10 * s.ctrl.settings.beat

/-- The listen period in ms: 2 × the beat interval + 4 × the own address (R166). -/
def State.listenMs (s : State) : Nat := 2 * s.beatMs + 4 * s.ctrl.settings.address.val

/-! ### Answers of the setup port (R175, R177) -/

/-- The reasons of REJECTED (section 11.4). -/
inductive RejectCode where
  | notStaged | noContributors | quorumRange | noDirection | timeRange | poolFull | notPresent
  deriving DecidableEq, Repr

/-- The reason byte. -/
def RejectCode.code : RejectCode → Byte
  | .notStaged => 1 | .noContributors => 2 | .quorumRange => 3 | .noDirection => 4 | .timeRange => 5 | .poolFull => 6
  | .notPresent => 7

/-- The answers other than OK (section 10.2). -/
inductive Denial where
  | wrongState | badOperand | busy | full | duplicate
  | rejected (reason : RejectCode)
  deriving DecidableEq, Repr

/-- The bytes of an answer other than OK: the status, and for REJECTED the reason (section 10.2). -/
def Denial.bytes : Denial → List Byte
  | .wrongState => [1] | .badOperand => [2] | .busy => [3] | .full => [4] | .duplicate => [5]
  | .rejected r => [6, r.code]

/-- What a request's own rule decides: an answer other than OK, which has no effect, or the results after OK and the state
it leaves (R177). -/
abbrev Verdicted := Except Denial (List Byte × State)

/-- The request is taken: the answer is ready and the transaction is in ANSWERING (R175). -/
def giveAnswer (bytes : List Byte) (s : State) : State :=
  s.setPort { s.port with transaction := .answering, answer := bytes }

/-- OK 0x00, then the results; or the answer that refuses the request (section 10.2). -/
def answerWith (s : State) : Verdicted → State
  | .ok (results, t) => giveAnswer (0#8 :: results) t
  | .error d => giveAnswer d.bytes s

/-- Take one request, in the checking order of R177: BUSY in VALIDATING, WRONG_STATE in a state that does not take it, then
the request's own rule. A request that arrives in RESET, or with no transaction collecting, is not taken: the port is silent,
the edges are ignored with CS high, and a second request in one transaction is ignored (R160, R174). -/
def takeRequest (taken : StationState → Bool) (rule : State → Verdicted) (s : State) : State :=
  if s.ctrl.station = .reset ∨ s.port.transaction ≠ .collecting then s
  else if s.ctrl.station = .validating ∧ taken .validating = false then answerWith s (.error .busy)
  else if taken s.ctrl.station = false then answerWith s (.error .wrongState)
  else answerWith s (rule s)

/-- Requests taken in SETUP alone (section 10.3). -/
def inSetup : StationState → Bool
  | .setup => true
  | .reset | .validating | .listen | .join | .run | .faulted => false

/-- Requests taken in every state but VALIDATING (section 10.3). -/
def notValidating : StationState → Bool
  | .setup | .listen | .join | .run | .faulted => true
  | .reset | .validating => false

/-- Requests taken in every state the port serves (section 10.3). -/
def always : StationState → Bool
  | .setup | .validating | .listen | .join | .run | .faulted => true
  | .reset => false

/-- Requests taken in RUN alone (section 10.3). -/
def inRun : StationState → Bool
  | .run => true
  | .reset | .setup | .validating | .listen | .join | .faulted => false

/-! ### Channel records at the entries that set them afresh (R100) -/

/-- A channel record on entry to SETUP (R100). -/
def ChannelRecord.atSetupEntry (c : ChannelRecord) : ChannelRecord :=
  { c with verdict := if c.enabled then .unsettled else .off, candidate := none, count := 0, lastCode := 0, contributing := false }

/-- A channel record at LISTEN entry (R88, R100). -/
def ChannelRecord.atListenEntry (contributing : Bool) (c : ChannelRecord) : ChannelRecord :=
  { c with verdict := if c.enabled then .unsettled else .off, candidate := none, count := 0, contributing := contributing }

/-- The classifier on entry to SETUP: idle, a scan in progress abandoned (R90, R100). -/
def Classifier.atSetupEntry (c : Classifier) : Classifier :=
  { c with channels := mapTable ChannelRecord.atSetupEntry c.channels, scan := [], scanTimer := none }

/-- The enabled channels, ascending: what a scan converts (R90). -/
def enabledChannels (v : Vector ChannelRecord 8) : List Channel := (List.finRange 8).filter fun c => v[c].enabled

/-- The classifier at LISTEN entry: contributing fields derived, the first scan begun (R88, R90, R100). -/
def Classifier.atListenEntry (settings : Settings) (t : PointTable) (c : Classifier) : Classifier :=
  { c with
    channels := Vector.ofFn fun i : Fin 8 =>
      c.channels[i].atListenEntry (tableNames t { station := settings.address, channel := i })
    scan := enabledChannels c.channels
    scanTimer := some settings.scan }

/-! ### Entries to the station states -/

/-- The controller on entry to SETUP: the configuration is kept, the runtime fields cleared (R159, R172). -/
def Controller.atSetupEntry (c : Controller) : Controller :=
  { c with station := .setup, startup := none, cause := .none, rejection := .clear, digest := none, tick := 0, listen := none,
           settle := none, beatTimer := none, counts := countTable c.points }

/-- The setup port on RESTART: the staging record, the cursor and the flags are cleared, the mask kept; the transaction goes
on (R187). -/
def SetupPort.atRestart (p : SetupPort) : SetupPort := { p with staging := none, cursor := .home, flags := 0 }

/-- The trip output unit on entry to SETUP: pins high-impedance, sets and records empty; a press on CLR being qualified goes
on (R65, R68, R73, R77). -/
def TripUnit.atSetupEntry (t : TripUnit) : TripUnit :=
  { t with groups := mapTable Group.atSetupEntry t.groups, firstOut := Vector.replicate 4 none }

/-- Entry to SETUP by RESTART (R172). -/
def enterSetup (s : State) : State :=
  { pending := s.pending, pins := s.pins, ctrl := s.ctrl.atSetupEntry, chan := s.chan.atSetupEntry, line := .idle,
    peers := none, sources := [], contexts := .empty, trip := s.trip.atSetupEntry, port := s.port.atRestart,
    choices := s.choices }

/-- The line controller on entry to FAULTED: the frame in flight cut off, the queue emptied, reception and slot count off; L,
the sequence counter and the abort count keep their values (R138, R158, R171). -/
def LineUnit.atFaultedEntry (l : LineUnit) : LineUnit :=
  { l with queue := [], inFlight := none, slots := .notKept, receiver := .idle }

/-- The controller on entry to FAULTED (R171). -/
def Controller.atFaultedEntry (cause : FaultCause) (c : Controller) : Controller :=
  { c with station := .faulted, cause := cause, listen := none, settle := none, beatTimer := none }

/-- A fault report: taken in LISTEN, JOIN and RUN it puts the station in FAULTED (R171); elsewhere it has no effect. The
peer table, the verdict table and the contexts stay as they are, and their timers no longer run. -/
def enterFaulted (cause : FaultCause) (s : State) : State :=
  if s.ctrl.station.online then
    setFlag .fault (((s.setCtrl (s.ctrl.atFaultedEntry cause)).setLine s.line.atFaultedEntry).setTrip
      { s.trip with groups := mapTable Group.atFaultedEntry s.trip.groups })
  else s

/-- A START that fails a check: back to SETUP with the rejection record and START_DONE, nothing built; the channel records
are set afresh on that entry (R100, R163). -/
def rejectStart (r : Rejection) (s : State) : State :=
  setFlag .startDone ((s.setCtrl { s.ctrl with station := .setup, rejection := r }).setChan s.chan.atSetupEntry)

/-- The controller at LISTEN entry: the digest, tick 0, the listen period (R128, R164). -/
def Controller.atListenEntry (listen : Nat) (c : Controller) : Controller :=
  { c with station := .listen, digest := some (digestOf c.settings.beat c.points), tick := 0, listen := some listen }

/-- The line controller at LISTEN entry: L is NONE, the sequence counter 0, the receiver waits, the slot count begins as
though activity had just ended or ends later (R136, R145, R147, R149). -/
def LineUnit.atListenEntry (lrxDominant : Bool) (l : LineUnit) : LineUnit :=
  { l with lastSender := none, sequence := 0, slots := .stopped, receiver := .entered lrxDominant }

/-- The build and LISTEN entry (R164). -/
def enterListen (lrxDominant : Bool) (s : State) : State :=
  setFlag .startDone
    { pending := s.pending, pins := s.pins, ctrl := s.ctrl.atListenEntry s.listenMs,
      chan := s.chan.atListenEntry s.ctrl.settings s.ctrl.points, line := s.line.atListenEntry lrxDominant,
      peers := some (buildPeers s.ctrl.settings.address),
      sources := buildSources s.ctrl.settings.address s.ctrl.points,
      contexts := buildContexts s.ctrl.points,
      trip := { s.trip with groups := mapTable Group.atListenEntry s.trip.groups },
      port := s.port, choices := s.choices }

/-- L assumed at the end of the listen period, if it is NONE: the own address less one, modulo 16 (R148). -/
def assumeSender (own : Address) : Option Address → Option Address
  | some a => some a
  | none => some (own - 1)

/-- JOIN entry: L assumed, the JOIN item queued, every point evaluated (R148, R166, R167). -/
def enterJoin (s : State) : State :=
  let s1 := s.setCtrl { s.ctrl with station := .join, listen := none }
  let s2 := s1.setLine { s1.line with lastSender := assumeSender s.ctrl.settings.address s.line.lastSender }
  evaluateAll (insertItem .join s2)

/-- RUN entry (R70, R170). -/
def enterRun (s : State) : State :=
  runEntryOutputs (s.setCtrl { s.ctrl with station := .run, settle := none })

end Sys2Proof.Machine
end

