-- ==== Sys2Proof/Machine/Classify.lean ====
section
/-! DEFINITION. Machine/Classify.lean: the meanings of SCAN_START and CONVERSION_COMPLETE (chapter 5). -/

namespace Sys2Proof.Machine

/-- A new scan: the enabled channels in ascending order; the next begins one scan interval later (R90). -/
def beginScan (s : State) : State :=
  s.setChan { s.chan with scan := enabledChannels s.chan.channels, scanTimer := some s.ctrl.settings.scan }

/-- SCAN_START: the rest of the scan interval passes, and a scan begins, in LISTEN, JOIN, RUN and FAULTED (R90; log 2, 4). -/
def execScanStart (s : State) : Host.Outcome State Fault Refusal :=
  .next (match s.ctrl.station.clocked, s.chan.scanTimer with
    | true, some r => beginScan (elapse r s)
    | _, _ => s)

/-- The voltage 2.500 V in the unit of CONVERSION_COMPLETE, 10^-13 V: the unit makes each code's lower edge,
k × 2.5 V / 4096, a whole number. -/
def fullScale : Nat := 25000000000000

/-- The code of a voltage: the whole part of 4096 × V / 2.5 V, within 0 to 4095 (R191). -/
def codeOfVoltage (v : Int) : Nat := if v ≤ 0 then 0 else min 4095 (4096 * v.toNat / fullScale)

/-- The class of a sample, the tests in their order (R91). The tests are written with sums, so that no limit less the
hysteresis falls below 0. -/
def classOf (p : Profile) (v : LineVerdict) (code : Nat) : SampleClass :=
  if code < p.faultLow ∨ p.faultHigh < code then .fault
  else match p.sense with
    | .outside =>
      if code < p.low then .low
      else if v = .low ∧ code < p.low + p.hysteresis then .low
      else if p.high < code then .high
      else if v = .high ∧ p.high < code + p.hysteresis then .high
      else .normal
    | .inside =>
      if p.low ≤ code ∧ code ≤ p.high then .band
      else if v = .band ∧ p.low ≤ code + p.hysteresis ∧ code ≤ p.high + p.hysteresis then .band
      else .normal

/-- The run of samples of a class that differs from the verdict, this one included (R93). -/
def runLength (c : ChannelRecord) (k : SampleClass) : Nat := if c.candidate = some k then c.count + 1 else 1

/-- A channel record after a sample of class `k` with persistence `n` (R93). -/
def persist (n : Nat) (c : ChannelRecord) (k : SampleClass) : ChannelRecord :=
  if k.verdict = c.verdict then { c with candidate := none, count := 0 }
  else if n ≤ runLength c k then { c with verdict := k.verdict, candidate := none, count := 0 }
  else { c with candidate := some k, count := runLength c k }

/-- Hand a verdict change on: to the verdict table in LISTEN, JOIN and RUN, and to the queue in JOIN and RUN, for a
contributing channel; otherwise it stays in the record (R27, R96, R97, R99). -/
def handOn (c : Channel) (v : LineVerdict) (contributing : Bool) (s : State) : State :=
  if contributing && s.ctrl.station.online then
    insertItem (.change c v)
      (applyUpdate [{ key := { station := s.ctrl.settings.address, channel := c }, verdict := .line v }] s.peers s)
  else s

/-- The record of a channel after a conversion: the code stored, classified, and applied to the persistence (R89, R91,
R93). -/
def sampledRecord (p : Profile) (r : ChannelRecord) (code : Nat) : ChannelRecord :=
  { persist p.persistence r (classOf p r.verdict code) with lastCode := code }

/-- The effect of the conversion of channel `c` (R89). -/
def takeSample (c : Channel) (rest : List Channel) (code : Nat) (s : State) : State :=
  let r := s.chan.channels[c]
  let r' := sampledRecord s.chan.profiles[r.profile] r code
  let s1 := s.setChan { s.chan with channels := setAt s.chan.channels c r', scan := rest }
  if r'.verdict = r.verdict then s1 else handOn c r'.verdict r.contributing s1

/-- CONVERSION_COMPLETE: the channel under conversion is the first the scan has still to convert (R89, R90); with none under
conversion it does not happen (log 4). -/
def execConversionComplete (voltage : Int) (s : State) : Host.Outcome State Fault Refusal :=
  .next (match s.ctrl.station.clocked, s.chan.scan with
    | true, c :: rest => takeSample c rest (codeOfVoltage voltage) s
    | _, _ => s)

end Sys2Proof.Machine
end

