-- ==== Sys2Proof/Machine/Operands.lean ====
section
/-! DEFINITION. Machine/Operands.lean: operand bytes of the setup requests read by the tables of section 11.4. Each answers
none for a value the tables do not list for its field, which is answered BAD_OPERAND (R190). -/

namespace Sys2Proof.Machine

/-- A station address, 0 to 15. -/
def toAddress (b : Byte) : Option Address := indexBelow 16 b.toNat

/-- A channel, 0 to 7. -/
def toChannel (b : Byte) : Option Channel := indexBelow 8 b.toNat

/-- A profile number, 0 to 7. -/
def toProfile (b : Byte) : Option ProfileNo := indexBelow 8 b.toNat

/-- A point number, 0 to 23. -/
def toPoint (b : Byte) : Option PointNo := indexBelow 24 b.toNat

/-- A trip group, 0 to 3. -/
def toGroup (b : Byte) : Option GroupNo := indexBelow 4 b.toNat

/-- A yes or no code: latched, enabled. -/
def toYesNo (b : Byte) : Option Bool :=
  match b.toNat with
  | 0 => some false
  | 1 => some true
  | _ => none

/-- A line-rate code (R180). -/
def toRate (b : Byte) : Option LineRate :=
  match b.toNat with
  | 0 => some .kbit62
  | 1 => some .kbit125
  | 2 => some .kbit250
  | 3 => some .kbit500
  | _ => none

/-- A policy code (R11). -/
def toPolicy (b : Byte) : Option Policy :=
  match b.toNat with
  | 0 => some .failtrip
  | 1 => some .ignore
  | 2 => some .degrade
  | _ => none

/-- A direction mask that names nothing beyond LOW, HIGH and BAND (R11). -/
def toDirections (b : Byte) : Option (BitVec 3) := if b.toNat < 8 then some (b.setWidth 3) else none

/-- A fail action code (R66). -/
def toFailAction (b : Byte) : Option FailAction :=
  match b.toNat with
  | 0 => some .trip
  | 1 => some .hold
  | _ => none

/-- A start state code (R66). -/
def toStartState (b : Byte) : Option StartState :=
  match b.toNat with
  | 0 => some .released
  | 1 => some .asserted
  | _ => none

/-- A sense code (R86). -/
def toSense (b : Byte) : Option Sense :=
  match b.toNat with
  | 0 => some .outside
  | 1 => some .inside
  | _ => none

/-- A 12-bit code, 0 to 4095 (R86). -/
def toCode (w : Half) : Option Nat := if w.toNat < 4096 then some w.toNat else none

/-- A persistence, 1 to 15 (R86). -/
def toPersistence (b : Byte) : Option Nat := if 1 ≤ b.toNat ∧ b.toNat ≤ 15 then some b.toNat else none

/-- A beat interval, 2 to 255 in units of 10 ms (R180). -/
def toBeat (b : Byte) : Option Nat := if 2 ≤ b.toNat then some b.toNat else none

/-- A scan interval, 1 to 255 ms (R180). -/
def toScan (b : Byte) : Option Nat := if 1 ≤ b.toNat then some b.toNat else none

/-- A scope code: whether it is NETWORK (R74). -/
def toScope (b : Byte) : Option Bool := toYesNo b

/-- An event mask that names nothing beyond the seven flags (R184). -/
def toEventMask (b : Byte) : Option (BitVec 7) := if b.toNat < 128 then some (b.setWidth 7) else none

/-- The four operands of SET_STATION, all in range (R180). -/
def toSettings (address rate beat scan : Byte) : Option Settings :=
  match toAddress address, toRate rate, toBeat beat, toScan scan with
  | some a, some r, some b, some n => some { address := a, rate := r, beat := b, scan := n }
  | _, _, _, _ => none

/-- The seven fields of a profile, all in range (R86). -/
def toProfileFields (faultLow low high faultHigh : Half) (hysteresis persistence sense : Byte) : Option Profile :=
  match toCode faultLow, toCode low, toCode high, toCode faultHigh, toPersistence persistence, toSense sense with
  | some fl, some l, some h, some fh, some p, some se =>
    some { faultLow := fl, low := l, high := h, faultHigh := fh, hysteresis := hysteresis.toNat, persistence := p, sense := se }
  | _, _, _, _, _, _ => none

/-- The seven settings of STAGE_POINT put into a draft, its list kept, when every one is in range (R11). -/
def toDraft (quorum mask policy latched group : Byte) (confirm release : Half) (draft : PointRecord) : Option PointRecord :=
  match toDirections mask, toPolicy policy, toYesNo latched, toGroup group with
  | some m, some p, some l, some g =>
    some { quorum := quorum.toNat, mask := m, policy := p, latched := l, contributors := draft.contributors, group := g,
           confirm := confirm.toNat, release := release.toNat }
  | _, _, _, _ => none

/-- The pair STAGE_ADD names (R12). -/
def toSource (station channel : Byte) : Option SourceKey :=
  match toAddress station, toChannel channel with
  | some a, some c => some { station := a, channel := c }
  | _, _ => none

end Sys2Proof.Machine
end

