-- ==== Sys2Proof/Machine/Clears.lean ====
section
/-! DEFINITION. Machine/Clears.lean: the meanings of CLEAR_POINTS, CLR_FALLING, CLR_RISING and CLR_QUALIFIED (section
4.3). -/

namespace Sys2Proof.Machine

/-- With scope NETWORK a CLEAR item carrying the mask is queued as well (R74). -/
def queueClear (network : Bool) (m : PointMask) (s : State) : State := if network then insertItem (.clear m) s else s

/-- CLEAR_POINTS: the local clear, and the CLEAR item (R74). -/
def execClearPoints (mask : PointMask) (scope : Byte) (s : State) : Host.Outcome State Fault Refusal :=
  .next (takeRequest inRun
    (fun s => if mask = 0 then .error .badOperand
      else match toScope scope with
        | some network => .ok ([], queueClear network mask (takeClearMask mask s))
        | none => .error .badOperand) s)

/-- Set or drop the qualification time of the press on CLR. -/
def setPress (p : Option Nat) (s : State) : State := s.setTrip { s.trip with press := p }

/-- CLR_FALLING: outside RESET, the qualification time starts, or starts again (R73). DESIGN CHOICE (log 34): the command is a
falling edge whatever level `pins` holds for CLR, so it starts a press with CLR held low and none running as well. -/
def execClrFalling (s : State) : Host.Outcome State Fault Refusal :=
  let s1 := s.setPins { s.pins with clrLow := true }
  .next (if s.ctrl.station = .reset then s1 else setPress (some Config.clrQualification) s1)

/-- CLR_RISING: a press not yet qualified is abandoned (R73). -/
def execClrRising (s : State) : Host.Outcome State Fault Refusal :=
  .next (setPress none (s.setPins { s.pins with clrLow := false }))

/-- CLR_QUALIFIED: the rest of the qualification time passes, and the mask of points 0 to 23 goes to the trip output unit
(R72, R73). With no press being qualified it does not happen (log 2, 4). -/
def execClrQualified (s : State) : Host.Outcome State Fault Refusal :=
  .next (match s.trip.press with
    | some r => takeClearMask (BitVec.allOnes 24) (setPress none (elapse r s))
    | none => s)

end Sys2Proof.Machine
end

