-- ==== Sys2Proof/Machine/Line.lean ====
section
/-! DEFINITION. Machine/Line.lean: the meanings of SLOT_START, FRAME_COMPLETE, ABORT, BROKEN_FRAME, CHARACTER_GAP_TIMEOUT and
LINE_ACTIVITY (chapters 7 and 8). -/

namespace Sys2Proof.Machine

/-- The number of the slot that begins next; none where no slot count is kept (R150). -/
def SlotCount.next : SlotCount → Option Nat
  | .notKept => none
  | .stopped => some 0
  | .slot k => some (k + 1)

/-- Slot `k` belongs to station (L + 1 + k) mod 16, and to none while L is NONE (R150). -/
def slotOwner (lastSender : Option Address) (k : Nat) : Option Address :=
  lastSender.map fun l => l + 1 + Fin.ofNat 16 k

/-- A slot begins: in JOIN and RUN, an owned slot starts a frame if anything is queued (R134, R150, R151). -/
def beginSlot (k : Nat) (s : State) : State :=
  let s1 := s.setLine { s.line with slots := .slot k }
  if s.ctrl.station.voting ∧ slotOwner s.line.lastSender k = some s.ctrl.settings.address then startFrame s1 else s1

/-- SLOT_START: the next slot of the count begins. Where no slot count is kept, or an own frame is in flight, no slot begins
(R135, R149; log 4, 14). -/
def execSlotStart (s : State) : Host.Outcome State Fault Refusal :=
  .next (match s.ctrl.station.online, s.line.inFlight, s.line.slots.next with
    | true, none, some k => beginSlot k s
    | _, _, _ => s)

/-- The line controller after an own frame completed (R135, R147, R154). -/
def LineUnit.afterComplete (own : Address) (l : LineUnit) : LineUnit :=
  { l with inFlight := none, lastSender := some own, aborts := 0, slots := .stopped, receiver := .waiting false }

/-- A completed JOIN: a BEAT item, the beat timer and the settle period (R168). -/
def joinCompleted (s : State) : State :=
  let s1 := insertItem .beat s
  s1.setCtrl { s1.ctrl with beatTimer := some s.beatMs, settle := some (2 * s.beatMs) }

/-- FRAME_COMPLETE (R135). With nothing in flight it does not happen (log 4). -/
def execFrameComplete (s : State) : Host.Outcome State Fault Refusal :=
  .next (match s.ctrl.station.voting, s.line.inFlight with
    | true, some f =>
      let s1 := s.setLine (s.line.afterComplete s.ctrl.settings.address)
      if f.kind = .join then joinCompleted s1 else s1
    | _, _ => s)

/-- The line controller after an abort: the items restored or dropped, the count raised, and the rest of the frame on the
line collected (R137, R152 to R154). -/
def LineUnit.afterAbort (f : InFlight) (l : LineUnit) : LineUnit :=
  { l with queue := restoreItems f.items l.queue, inFlight := none, aborts := l.aborts + 1, slots := .stopped,
           receiver := .collecting }

/-- ABORT: the eighth in a row puts the station in FAULTED with cause LINE (R152, R154). With nothing in flight it does not
happen (log 4). -/
def execAbort (s : State) : Host.Outcome State Fault Refusal :=
  .next (match s.ctrl.station.voting, s.line.inFlight with
    | true, some f =>
      let s1 := s.setLine (s.line.afterAbort f)
      if Config.abortLimit ≤ s1.line.aborts then enterFaulted .line s1 else s1
    | _, _ => s)

/-- Whether the receiver may have a frame in collection: a dominant run began while it waited, or a frame is known to be open.
An idle or a waiting receiver collects none, one waiting since LISTEN entry among them (R145; log 13, and log 35 for R121). -/
def Receiver.collects : Receiver → Bool
  | .timing _ | .collecting => true
  | .idle | .entered _ | .waiting _ => false

/-- Whether a dominant run, an own frame's among them, has begun since LISTEN entry. Before one has, no frame can have been
collected (R145; log 13). -/
def Receiver.hasOpened : Receiver → Bool
  | .waiting _ | .timing _ | .collecting => true
  | .idle | .entered _ => false

/-- The receiver after a frame is abandoned: it waits, short dominant runs being the rest of the abandoned frame; a new break
inside the frame opens a new one at once (R145, R146). None where there is no frame to abandon: in an idle or a waiting receiver,
and for a short run that is the rest of an abandoned frame (R146) or of the level found at LISTEN entry (R145; log 13). -/
def Receiver.afterBroken (reason : BrokenReason) : Receiver → Option Receiver
  | .idle | .entered _ | .waiting _ => none
  | .timing afterAbandoned =>
    match reason with
    | .newBreak => some .collecting
    | .shortBreak => if afterAbandoned then none else some (.waiting true)
    | .stopBit | .bodyLength | .checkValue | .fitToKind => some (.waiting true)
  | .collecting =>
    match reason with
    | .newBreak => some .collecting
    | .stopBit | .bodyLength | .checkValue | .fitToKind | .shortBreak => some (.waiting true)

/-- A broken frame reaches no block: it counts only as line activity (R146). -/
def abandonFrame (reason : BrokenReason) (s : State) : State :=
  if s.ctrl.station.online ∧ s.line.inFlight = none then
    match s.line.receiver.afterBroken reason with
    | some r => s.setLine { s.line with receiver := r, slots := .stopped }
    | none => s
  else s

/-- BROKEN_FRAME (R129, R146). -/
def execBrokenFrame (reason : BrokenReason) (s : State) : Host.Outcome State Fault Refusal := .next (abandonFrame reason s)

/-- A gap breaks the frame in collection. The line is recessive by then, and the slot count goes on (R145, R156). -/
def timeOutGap (s : State) : State :=
  if s.ctrl.station.online ∧ s.line.inFlight = none then
    match s.line.receiver with
    | .timing _ | .collecting => s.setLine { s.line with receiver := .waiting true }
    | .idle | .entered _ | .waiting _ => s
  else s

/-- CHARACTER_GAP_TIMEOUT (R145). -/
def execCharacterGapTimeout (s : State) : Host.Outcome State Fault Refusal := .next (timeOutGap s)

/-- The receiver when a dominant level appears: a waiting one begins timing the run (R145). -/
def Receiver.onDominant : Receiver → Receiver
  | .entered b | .waiting b => .timing b
  | .idle => .idle
  | .timing b => .timing b
  | .collecting => .collecting

/-- LINE_ACTIVITY: the slot count stops at once (R149, R150), and a waiting receiver times the run (R145). -/
def execLineActivity (s : State) : Host.Outcome State Fault Refusal :=
  .next (if s.ctrl.station.online then
      s.setLine { s.line with slots := .stopped, receiver := s.line.receiver.onDominant }
    else s)

end Sys2Proof.Machine
end

