-- ==== Sys2Proof/Machine/Timers.lean ====
section
/-! DEFINITION. Machine/Timers.lean: the meanings of the expiries of the listen period, the settle period, the beat timer,
the point timers and the peer timers. Each lets the time left of its timer pass and then takes the expiry; where the timer
is not running, the expiry does not happen (log 2, 4). -/

namespace Sys2Proof.Machine

/-- LISTEN_PERIOD_EXPIRY: from LISTEN to JOIN (R166). -/
def execListenPeriodExpiry (s : State) : Host.Outcome State Fault Refusal :=
  .next (match s.ctrl.station, s.ctrl.listen with
    | .listen, some r => enterJoin (elapse r s)
    | _, _ => s)

/-- SETTLE_PERIOD_EXPIRY: from JOIN to RUN (R170). -/
def execSettlePeriodExpiry (s : State) : Host.Outcome State Fault Refusal :=
  .next (match s.ctrl.station, s.ctrl.settle with
    | .join, some r => enterRun (elapse r s)
    | _, _ => s)

/-- The beat timer's expiry: a BEAT item, and the timer starts again with one beat interval (R169). -/
def takeBeatExpiry (s : State) : State :=
  let s1 := insertItem .beat s
  s1.setCtrl { s1.ctrl with beatTimer := some s.beatMs }

/-- BEAT_TIMER_EXPIRY (R169). -/
def execBeatTimerExpiry (s : State) : Host.Outcome State Fault Refusal :=
  .next (match s.ctrl.station.voting, s.ctrl.beatTimer with
    | true, some r => takeBeatExpiry (elapse r s)
    | _, _ => s)

/-- The time left of a point's timer, if it runs and is of the kind (R49). -/
def pointTimer (k : TimerKind) (s : State) (p : PointNo) : Option Nat :=
  match s.contexts[p] with
  | some c =>
    match c.timer with
    | some t => if t.kind = k then some t.remaining else none
    | none => none
  | none => none

/-- CONFIRM_TIMER_EXPIRY (R45). -/
def execConfirmTimerExpiry (point : PointNo) (s : State) : Host.Outcome State Fault Refusal :=
  .next (match s.ctrl.station.voting, pointTimer .confirm s point with
    | true, some r => evaluateAsCounted point .confirmExpiry (elapse r s)
    | _, _ => s)

/-- RELEASE_TIMER_EXPIRY (R47). -/
def execReleaseTimerExpiry (point : PointNo) (s : State) : Host.Outcome State Fault Refusal :=
  .next (match s.ctrl.station.voting, pointTimer .release s point with
    | true, some r => evaluateAsCounted point .releaseExpiry (elapse r s)
    | _, _ => s)

/-- The peer entry at an address, where a table stands. -/
def peerAt (s : State) (a : Address) : Option PeerEntry := s.peers.map fun t => t[a]

/-- A peer becomes SILENT: both results of R31 and PEER (R115, R116, R119). -/
def silencePeer (a : Address) (e : PeerEntry) (s : State) : State :=
  setFlag .peer (applyUpdate (discardWrites a s.sources) (withPeer a { e with state := .silent, heal := none } s.peers) s)

/-- The silence timer's expiry (R116). -/
def takeSilenceExpiry (a : Address) (s : State) : State :=
  match peerAt s a with
  | none => s
  | some e =>
    match e.state with
    | .live | .gapped | .excluded => silencePeer a { e with silence := none } s
    | .unheard | .silent | .self => setPeer a { e with silence := none } s

/-- SILENCE_TIMER_EXPIRY (R116). -/
def execSilenceTimerExpiry (peer : Address) (s : State) : Host.Outcome State Fault Refusal :=
  .next (match s.ctrl.station.online, (peerAt s peer).bind (·.silence) with
    | true, some r => takeSilenceExpiry peer (elapse r s)
    | _, _ => s)

/-- The heal timer's expiry: from GAPPED to SILENT, the silence timer running on (R115, R116). -/
def takeHealExpiry (a : Address) (s : State) : State :=
  match peerAt s a with
  | none => s
  | some e => if e.state = .gapped then silencePeer a e s else setPeer a { e with heal := none } s

/-- HEAL_TIMER_EXPIRY (R115). -/
def execHealTimerExpiry (peer : Address) (s : State) : Host.Outcome State Fault Refusal :=
  .next (match s.ctrl.station.online, (peerAt s peer).bind (·.heal) with
    | true, some r => takeHealExpiry peer (elapse r s)
    | _, _ => s)

end Sys2Proof.Machine
end

