-- ==== Sys2Proof/Machine/Frames.lean ====
section
/-! DEFINITION. Machine/Frames.lean: the meanings of the RECEIVE commands and of DUPLICATE_ADDRESS: what the line controller
does with a valid frame, and the peer monitor with one of a known kind (chapters 6 to 8). -/

namespace Sys2Proof.Machine

/-- The end of a valid frame at the line controller: its source becomes L, and the receiver waits again (R145, R147). -/
def LineUnit.afterFrame (source : Address) (l : LineUnit) : LineUnit :=
  { l with lastSender := some source, slots := .stopped, receiver := .waiting false }

/-- A valid frame is collected in LISTEN, JOIN and RUN while self is not transmitting, by a receiver with a frame in collection:
its source becomes L, the receiver waits again, and the own address puts the station in FAULTED (R129, R130, R145, R147, R155).
Otherwise `rest` acts. In every other state reception is ignored, and a waiting receiver has nothing to complete (log 13).
DESIGN CHOICE (log 35): a frame that completes together with LISTEN entry, after the build, was under way at the entry, and is not
collected, as R145 has it, where R121 has it taken. -/
def acceptFrame (source : Address) (rest : State → State) (s : State) : State :=
  if s.ctrl.station.online ∧ s.line.inFlight = none ∧ s.line.receiver.collects then
    let s1 := s.setLine (s.line.afterFrame source)
    if source = s.ctrl.settings.address then enterFaulted .duplicateAddress s1 else rest s1
  else s

/-- A valid frame of a known kind from a peer is one event at the peer monitor, which reads the sender's entry as it stood
before the frame (R105, R106). -/
def deliverFrame (source : Address) (effect : PeerEntry → State → State) (s : State) : State :=
  acceptFrame source (fun s => match peerAt s source with
    | some e => effect e s
    | none => s) s

/-- The bookkeeping of every frame (R106). -/
def heardEntry (sequence : Byte) (s : State) (e : PeerEntry) : PeerEntry :=
  { e with expected := some (sequence + 1), lastHeard := some s.ctrl.tick, silence := some (3 * s.beatMs) }

/-- A mismatching JOIN or BEAT: entry to EXCLUDED with DIGEST and PEER; from EXCLUDED the bookkeeping alone (R109, R110,
R118). -/
def excludePeer (a : Address) (before heard : PeerEntry) (s : State) : State :=
  if before.state = .excluded then setPeer a heard s
  else
    setFlag .peer (setFlag .digest
      (applyUpdate (discardWrites a s.sources) (withPeer a { heard with state := .excluded, heal := none } s.peers) s))

/-- A JOIN matches in digest and beat interval (R107). -/
def joinMatches (digest : Half) (beat : Byte) (s : State) : Bool :=
  s.ctrl.digest == some digest && beat.toNat == s.ctrl.settings.beat

/-- A JOIN at the peer monitor: from every state a matching one changes the state or is a peer restart, so PEER is set
(R109, R119). -/
def joinEffect (a : Address) (sequence : Byte) (digest : Half) (beat channels : Byte) (e : PeerEntry) (s : State) : State :=
  let heard := { heardEntry sequence s e with digest := some digest, channels := some channels }
  if joinMatches digest beat s then
    setFlag .peer
      (applyUpdate (discardWrites a s.sources) (withPeer a { heard with state := .live, heal := none } s.peers) s)
  else excludePeer a e heard s

/-- RECEIVE_JOIN (R109). -/
def execReceiveJoin (source : Address) (sequence : Byte) (digest : Half) (beat channels : Byte) (s : State) :
    Host.Outcome State Fault Refusal :=
  .next (deliverFrame source (joinEffect source sequence digest beat channels) s)

/-- A BEAT at the peer monitor: a matching one is loaded and brings LIVE; PEER is set where the state changes (R107, R110,
R119). -/
def beatEffect (a : Address) (sequence : Byte) (digest : Half) (verdicts : Vector Byte 8) (e : PeerEntry) (s : State) :
    State :=
  let heard := { heardEntry sequence s e with digest := some digest }
  if s.ctrl.digest = some digest then
    setFlagIf (e.state != .live) .peer
      (applyUpdate (beatWrites a verdicts s.sources) (withPeer a { heard with state := .live, heal := none } s.peers) s)
  else excludePeer a e heard s

/-- RECEIVE_BEAT (R110). -/
def execReceiveBeat (source : Address) (sequence : Byte) (digest : Half) (verdicts : Vector Byte 8) (s : State) :
    Host.Outcome State Fault Refusal :=
  .next (deliverFrame source (beatEffect source sequence digest verdicts) s)

/-- The writes of a frame that changes no state: no update where it writes nothing (R111, R113). -/
def writeAndHear (ws : List Write) (after : Option PeerTable) (s : State) : State :=
  if ws = [] then s.setPeers after else applyUpdate ws after s

/-- A CHANGE, PROBE or CLEAR at the peer monitor (R108, R111 to R114). `ws` are its line writes; `act` is what it does when it
is applied, told whether it showed a gap, in which case `act` also queues the PROBE item naming the sender. -/
def sequencedEffect (a : Address) (sequence : Byte) (ws : List Write) (act : Bool → State → State) (e : PeerEntry)
    (s : State) : State :=
  let heard := heardEntry sequence s e
  match e.state with
  | .live =>
    if e.expected = some sequence then act false (writeAndHear ws (withPeer a heard s.peers) s)
    else
      act true (setFlag .peer
        (applyUpdate ws (withPeer a { heard with state := .gapped, heal := some s.beatMs } s.peers) s))
  | .gapped => act false (writeAndHear ws (withPeer a heard s.peers) s)
  | .unheard | .silent => insertItem (.probe a) (setPeer a heard s)
  | .excluded | .self => setPeer a heard s

/-- The PROBE item a gap draws (R114). -/
def probeOnGap (a : Address) (gap : Bool) (s : State) : State := if gap then insertItem (.probe a) s else s

/-- RECEIVE_CHANGE (R111). A body whose count is not 1 to 8 is a broken frame (R129; log 27). -/
def execReceiveChange (source : Address) (sequence : Byte) (entries : List Byte) (s : State) :
    Host.Outcome State Fault Refusal :=
  .next (if 1 ≤ entries.length ∧ entries.length ≤ 8 then
      deliverFrame source (sequencedEffect source sequence (changeWrites source entries) (probeOnGap source)) s
    else abandonFrame .fitToKind s)

/-- Whether a PROBE names the own address: every other target value is passed over (R112, R127). -/
def probeNames (own : Address) (targets : List Byte) : Bool := targets.any fun t => t.toNat == own.val

/-- An applied PROBE: a BEAT item if it names self (R112); with a gap, a PROBE item naming the sender, the two in a free
order (log 6). -/
def probeAct (a : Address) (targets : List Byte) (gap : Bool) (s : State) : State :=
  if probeNames s.ctrl.settings.address targets then
    if gap then
      if Config.probeAheadOfBeat s.choices then insertItem .beat (insertItem (.probe a) (s.setChoices (s.choices + 1)))
      else insertItem (.probe a) (insertItem .beat (s.setChoices (s.choices + 1)))
    else insertItem .beat s
  else probeOnGap a gap s

/-- RECEIVE_PROBE (R112). A body whose count is not 1 to 4 is a broken frame (R129; log 27). -/
def execReceiveProbe (source : Address) (sequence : Byte) (targets : List Byte) (s : State) :
    Host.Outcome State Fault Refusal :=
  .next (if 1 ≤ targets.length ∧ targets.length ≤ 4 then
      deliverFrame source (sequencedEffect source sequence [] (probeAct source targets)) s
    else abandonFrame .fitToKind s)

/-- RECEIVE_CLEAR: an applied one hands its mask to the trip output unit (R75, R113). -/
def execReceiveClear (source : Address) (sequence : Byte) (mask : PointMask) (s : State) :
    Host.Outcome State Fault Refusal :=
  .next (deliverFrame source
    (sequencedEffect source sequence [] (fun gap s => takeClearMask mask (probeOnGap source gap s))) s)

/-- RECEIVE_UNKNOWN_KIND: L is taken from it, and nothing else (R129, R147). -/
def execReceiveUnknownKind (source : Address) (s : State) : Host.Outcome State Fault Refusal :=
  .next (acceptFrame source (fun s => s) s)

/-- The line controller's report of the own address: L is taken from the frame, and the station enters FAULTED (R155, R171). The
report may be taken after the frame's end: with an own frame in flight, which it cuts off, or once that frame has completed and
the receiver waits again, as rows 3 and 4 of R173 have it (R138, R158; log 32). Until a dominant run has begun since LISTEN entry
no frame can have been collected, and there is nothing to report (R145; log 13). -/
def reportDuplicate (s : State) : State :=
  if s.ctrl.station.online ∧ s.line.receiver.hasOpened then
    enterFaulted .duplicateAddress (s.setLine (s.line.afterFrame s.ctrl.settings.address))
  else s

/-- DUPLICATE_ADDRESS (R155). -/
def execDuplicateAddress (s : State) : Host.Outcome State Fault Refusal := .next (reportDuplicate s)

end Sys2Proof.Machine
end

