-- ==== Sys2Proof/Machine/Port.lean ====
section
/-! DEFINITION. Machine/Port.lean: the meanings of CS_FALLING, CS_RISING and UNKNOWN_REQUEST (R174 to R176). -/

namespace Sys2Proof.Machine

/-- The effect of CS falling: a CLOSED port opens a transaction; in RESET CS is ignored but for its level (R160, R174). -/
def openTransaction (s : State) : State :=
  let s1 := s.setPins { s.pins with csLow := true }
  if s.ctrl.station ≠ .reset ∧ s.port.transaction = .closed then
    s1.setPort { s.port with transaction := .collecting, answer := [] }
  else s1

/-- CS_FALLING (R174). -/
def execCsFalling (s : State) : Host.Outcome State Fault Refusal := .next (openTransaction s)

/-- The effect of CS rising: to CLOSED, the bytes not yet clocked out lost; a request not yet taken has had no effect
(R174, R176). -/
def closeTransaction (s : State) : State :=
  let s1 := s.setPins { s.pins with csLow := false }
  if s.ctrl.station ≠ .reset then s1.setPort { s.port with transaction := .closed, answer := [] } else s1

/-- CS_RISING (R176). -/
def execCsRising (s : State) : Host.Outcome State Fault Refusal := .next (closeTransaction s)

/-- UNKNOWN_REQUEST: BUSY in VALIDATING, BAD_OPERAND otherwise, no effect; check 2 does not apply to it (R175). The code
itself plays no part. -/
def execUnknownRequest (_code : Byte) (s : State) : Host.Outcome State Fault Refusal :=
  .next (takeRequest notValidating (fun _ => .error .badOperand) s)

end Sys2Proof.Machine
end

