-- ==== Sys2Proof/Machine/Power.lean ====
section
/-! DEFINITION. Machine/Power.lean: the meanings of POWER_ON, RST_LOW, RST_HIGH and STARTUP_COMPLETE (R160). -/

namespace Sys2Proof.Machine

/-- The start-up after power-on: running if RST is high, held off while it is low (R160). -/
def startupAtPowerOn (p : InputPins) : Option Nat := if p.rstLow then none else some Config.startupTime

/-- POWER_ON: RESET, every item of every block at its power-on value; the levels on the input pins are the outside world's
(R160). -/
def execPowerOn (s : State) : Host.Outcome State Fault Refusal :=
  .next (State.inReset s.pending s.pins s.choices (startupAtPowerOn s.pins))

/-- The effect of RST low for 10 µs or more: RESET, nothing kept, any own frame cut off, held there by RST (R160). -/
def takeReset (s : State) : State := State.inReset s.pending { s.pins with rstLow := true } s.choices none

/-- The effect of a low pulse too short to be sure, now over: taken, so that RESET and its start-up follow, or ignored with
nothing changed (R160; log 8). A pulse cannot begin while RST is low. -/
def shortReset (s : State) : State :=
  if s.pins.rstLow then s
  else if Config.shortResetTaken s.choices then State.inReset s.pending s.pins (s.choices + 1) (some Config.startupTime)
  else s.setChoices (s.choices + 1)

/-- RST_LOW (R160). -/
def execRstLow (micros : Nat) (s : State) : Host.Outcome State Fault Refusal :=
  .next (if Config.resetPulse ≤ micros then takeReset s else shortReset s)

/-- The effect of RST returning high: in RESET held by RST the start-up begins; a start-up under way goes on (R160). -/
def releaseReset (s : State) : State :=
  let s1 := s.setPins { s.pins with rstLow := false }
  if s.ctrl.station = .reset ∧ s.ctrl.startup = none then s1.setCtrl { s.ctrl with startup := some Config.startupTime } else s1

/-- RST_HIGH (R160). -/
def execRstHigh (s : State) : Host.Outcome State Fault Refusal := .next (releaseReset s)

/-- The port on leaving RESET: WAITING if CS is low at that moment, CLOSED if it is high (R174). -/
def portAfterReset (p : InputPins) : Transaction := if p.csLow then .waiting else .closed

/-- From RESET to SETUP (R160). -/
def leaveReset (s : State) : State :=
  (s.setCtrl { s.ctrl with station := .setup, startup := none }).setPort
    { s.port with transaction := portAfterReset s.pins }

/-- STARTUP_COMPLETE: the rest of a running start-up passes, and the station enters SETUP. With none running it does not
happen (log 2, 4). -/
def execStartupComplete (s : State) : Host.Outcome State Fault Refusal :=
  .next (match s.ctrl.station, s.ctrl.startup with
    | .reset, some r => leaveReset (elapse r s)
    | _, _ => s)

end Sys2Proof.Machine
end

