-- ==== Sys2Proof/Machine/Reads.lean ====
section
/-! DEFINITION. Machine/Reads.lean: the meanings of the read requests, of SET_EVENT_MASK and of ACK_FIRST_OUT. The result
bytes follow the table of section 11.4. -/

namespace Sys2Proof.Machine

/-- The status record, 20 bytes (R181). -/
def statusBytes (s : State) : List Byte :=
  [s.ctrl.station.code, s.ctrl.cause.code, s.ctrl.rejection.reason.code, natByte (s.ctrl.rejection.item.getD 0),
   natByte s.ctrl.settings.address.val, s.ctrl.settings.rate.code, natByte s.ctrl.settings.beat, natByte s.ctrl.settings.scan]
    ++ halfBytes (s.ctrl.digest.getD 0)
    ++ [senderCode s.line.lastSender, s.line.sequence, natByte s.line.aborts]
    ++ [natByte s.ctrl.counts.points, natByte s.ctrl.counts.pool, natByte s.ctrl.counts.sources]
    ++ tickBytes s.ctrl.tick

/-- READ_STATUS, taken in VALIDATING as well (R165, R181). -/
def execReadStatus (s : State) : Host.Outcome State Fault Refusal :=
  .next (takeRequest always (fun s => .ok (statusBytes s, s)) s)

/-- The time left of a context's timer, 0 when it holds none (R49). -/
def PointContext.remaining (c : PointContext) : Nat :=
  match c.timer with
  | some t => t.remaining
  | none => 0

/-- The vote of a point, 9 bytes (R64). -/
def pointBytes (s : State) (p : PointNo) : List Byte :=
  match s.ctrl.points[p], s.contexts[p] with
  | some _, some c =>
    [1, c.state.code, natByte c.excursions, natByte c.normals, natByte c.unavailables, natByte c.count,
     natByte c.effectiveQuorum] ++ natHalfBytes c.remaining
  | some _, none => [1, PointState.clear.code, 0, 0, 0, 0, 0, 0, 0]
  | none, _ => [0, 0, 0, 0, 0, 0, 0, 0, 0]

/-- READ_POINT (R64). -/
def execReadPoint (point : Byte) (s : State) : Host.Outcome State Fault Refusal :=
  .next (takeRequest notValidating
    (fun s => match toPoint point with
      | some p => .ok (pointBytes s p, s)
      | none => .error .badOperand) s)

/-- Index 0 of a record, 11 bytes; all 0 for an absent point (R182). -/
def headerBytes : Option PointRecord → List Byte
  | some r =>
    [1, natByte r.quorum, directionByte r.mask, r.policy.code, boolByte r.latched, natByte r.contributors.length,
     natByte r.group.val] ++ natHalfBytes r.confirm ++ natHalfBytes r.release
  | none => [0, 0, 0, 0, 0, 0, 0, 0, 0, 0, 0]

/-- Index k ≥ 1 of a record: the contributor at position k − 1, 2 bytes; none where there is none (R182). -/
def contributorBytes (o : Option PointRecord) (k : Nat) : Option (List Byte) :=
  match o with
  | some r => (r.contributors[k - 1]?).map fun c => [natByte c.station.val, natByte c.channel.val]
  | none => none

/-- The item of a record an index selects; none for an index above 8 or beyond the list (R182). -/
def recordItem (o : Option PointRecord) (index : Nat) : Option (List Byte) :=
  if index = 0 then some (headerBytes o) else if index ≤ 8 then contributorBytes o index else none

/-- READ_POINT_RECORD (R18, R182). -/
def execReadPointRecord (point index : Byte) (s : State) : Host.Outcome State Fault Refusal :=
  .next (takeRequest notValidating
    (fun s => match toPoint point with
      | some p =>
        match recordItem s.ctrl.points[p] index.toNat with
        | some l => .ok (l, s)
        | none => .error .badOperand
      | none => .error .badOperand) s)

/-- A source entry, 7 bytes; the origin is not returned (R37). -/
def sourceBytes (e : SourceEntry) : List Byte :=
  [natByte e.key.station.val, natByte e.key.channel.val, e.verdict.code] ++ tickBytes e.updatedAt

/-- READ_SOURCE (R37). -/
def execReadSource (index : Byte) (s : State) : Host.Outcome State Fault Refusal :=
  .next (takeRequest notValidating
    (fun s => match s.sources[index.toNat]? with
      | some e => .ok (sourceBytes e, s)
      | none => .error .badOperand) s)

/-- The byte that says which fields of a peer entry are present (section 11.4). -/
def presenceByte (e : PeerEntry) : Byte :=
  (if e.digest.isSome then 1#8 else 0) ||| (if e.channels.isSome then 2#8 else 0) |||
    (if e.expected.isSome then 4#8 else 0) ||| (if e.lastHeard.isSome then 8#8 else 0)

/-- A peer entry, 14 bytes; an absent field reads 0 (R122, R190). -/
def peerBytes (e : PeerEntry) : List Byte :=
  [e.state.code, presenceByte e] ++ halfBytes (e.digest.getD 0) ++ [e.channels.getD 0, e.expected.getD 0]
    ++ tickBytes (e.lastHeard.getD 0) ++ natHalfBytes (e.silence.getD 0) ++ natHalfBytes (e.heal.getD 0)

/-- The entry READ_PEER reports: where no table stands, SELF at the own address in force and UNHEARD elsewhere, with nothing
else (R122). -/
def peerView (s : State) (a : Address) : PeerEntry :=
  match s.peers with
  | some t => t[a]
  | none => builtPeer s.ctrl.settings.address a

/-- READ_PEER (R122). -/
def execReadPeer (address : Byte) (s : State) : Host.Outcome State Fault Refusal :=
  .next (takeRequest notValidating
    (fun s => match toAddress address with
      | some a => .ok (peerBytes (peerView s a), s)
      | none => .error .badOperand) s)

/-- A channel record, 8 bytes (R101). -/
def channelBytes (c : ChannelRecord) : List Byte :=
  [boolByte c.enabled, natByte c.profile.val, boolByte c.contributing] ++ natHalfBytes c.lastCode
    ++ [c.verdict.code, candidateCode c.candidate, natByte c.count]

/-- READ_CHANNEL (R101). -/
def execReadChannel (channel : Byte) (s : State) : Host.Outcome State Fault Refusal :=
  .next (takeRequest notValidating
    (fun s => match toChannel channel with
      | some c => .ok (channelBytes s.chan.channels[c], s)
      | none => .error .badOperand) s)

/-- The header of a first-out record, 13 bytes; the last five fields read 0 for an EMPTY one (R81). -/
def firstOutHeader (g : GroupNo) (r : Group) (f : Option FirstOut) : List Byte :=
  [0, natByte g.val, boolByte f.isSome, r.output.code, natByte r.asserting.length]
    ++ match f with
       | some f => [natByte f.point.val] ++ tickBytes f.tick ++ [natByte f.subsequent, natByte f.snapshot.length, f.cause.code]
       | none => [0, 0, 0, 0, 0, 0, 0, 0]

/-- A snapshot entry, 5 bytes (R81). -/
def snapshotBytes (k : Nat) (e : SnapshotEntry) : List Byte :=
  [1, natByte k, natByte e.source.station.val, natByte e.source.channel.val, e.standing.code]

/-- The cursor a READ_FIRST_OUT of a group starts from: another group's cursor moves to its header first (R81). -/
def cursorFor (c : Cursor) (g : GroupNo) : Cursor := if c.group = g then c else { group := g, position := none }

/-- The item at the cursor and the cursor after it (R81). A position with no entry, which no run leaves, reads as the header
(log 29). -/
def firstOutItem (r : Group) (f : Option FirstOut) (c : Cursor) : List Byte × Cursor :=
  match f with
  | none => (firstOutHeader c.group r none, { c with position := none })
  | some f =>
    match c.position with
    | none => (firstOutHeader c.group r (some f), { c with position := some 0 })
    | some k =>
      match f.snapshot[k]? with
      | some e => (snapshotBytes k e, { c with position := if k + 1 < f.snapshot.length then some (k + 1) else none })
      | none => (firstOutHeader c.group r (some f), { c with position := some 0 })

/-- READ_FIRST_OUT: the item at the cursor, which advances (R81). -/
def execReadFirstOut (group : Byte) (s : State) : Host.Outcome State Fault Refusal :=
  .next (takeRequest notValidating
    (fun s => match toGroup group with
      | some g =>
        let x := firstOutItem s.trip.groups[g] s.trip.firstOut[g] (cursorFor s.port.cursor g)
        .ok (x.1, s.setPort { s.port with cursor := x.2 })
      | none => .error .badOperand) s)

/-- READ_EVENTS: the flags that are set, which are cleared (R186). -/
def execReadEvents (s : State) : Host.Outcome State Fault Refusal :=
  .next (takeRequest notValidating
    (fun s => .ok ([s.port.flags.setWidth 8], s.setPort { s.port with flags := 0 })) s)

/-- SET_EVENT_MASK: the mask replaced whole (R184). -/
def execSetEventMask (mask : Byte) (s : State) : Host.Outcome State Fault Refusal :=
  .next (takeRequest notValidating
    (fun s => match toEventMask mask with
      | some m => .ok ([], s.setPort { s.port with mask := m })
      | none => .error .badOperand) s)

/-- ACK_FIRST_OUT: the group's record emptied, its cursor at the header (R80, R82). -/
def execAckFirstOut (group : Byte) (s : State) : Host.Outcome State Fault Refusal :=
  .next (takeRequest notValidating
    (fun s => match toGroup group with
      | some g => .ok ([], rewindCursor g (setFirstOut g none s))
      | none => .error .badOperand) s)

end Sys2Proof.Machine
end

