-- ==== Sys2Proof/Machine/Setup.lean ====
section
/-! DEFINITION. Machine/Setup.lean: the meanings of the requests taken in SETUP, from SET_STATION to START, of
VALIDATION_END and of RESTART. -/

namespace Sys2Proof.Machine

/-- SET_STATION: the four settings together (R180). -/
def execSetStation (address rate beat scan : Byte) (s : State) : Host.Outcome State Fault Refusal :=
  .next (takeRequest inSetup
    (fun s => match toSettings address rate beat scan with
      | some t => .ok ([], s.setCtrl { s.ctrl with settings := t })
      | none => .error .badOperand) s)

/-- SET_PROFILE: the seven fields together, their validity unchecked (R86). -/
def execSetProfile (profile : Byte) (faultLow low high faultHigh : Half) (hysteresis persistence sense : Byte) (s : State) :
    Host.Outcome State Fault Refusal :=
  .next (takeRequest inSetup
    (fun s => match toProfile profile, toProfileFields faultLow low high faultHigh hysteresis persistence sense with
      | some i, some p => .ok ([], s.setChan { s.chan with profiles := setAt s.chan.profiles i p })
      | _, _ => .error .badOperand) s)

/-- SET_CHANNEL: both settings together, and nothing else of the record (R85). -/
def execSetChannel (channel enabled profile : Byte) (s : State) : Host.Outcome State Fault Refusal :=
  .next (takeRequest inSetup
    (fun s => match toChannel channel, toYesNo enabled, toProfile profile with
      | some c, some e, some p =>
        .ok ([], s.setChan { s.chan with
          channels := setAt s.chan.channels c { s.chan.channels[c] with enabled := e, profile := p } })
      | _, _, _ => .error .badOperand) s)

/-- SET_GROUP: both settings together (R66). -/
def execSetGroup (group failAction startState : Byte) (s : State) : Host.Outcome State Fault Refusal :=
  .next (takeRequest inSetup
    (fun s => match toGroup group, toFailAction failAction, toStartState startState with
      | some g, some f, some t =>
        .ok ([], setGroupRecord g { s.trip.groups[g] with failAction := f, startState := t } s)
      | _, _, _ => .error .badOperand) s)

/-- The initial values of a BEGUN staging record (section 1.5). -/
def blankDraft : PointRecord :=
  { quorum := 0, mask := 0, policy := .failtrip, latched := false, contributors := [], group := 0, confirm := 0, release := 0 }

/-- Replace the staging record. -/
def setStaging (g : Option Staging) (s : State) : State := s.setPort { s.port with staging := g }

/-- STAGE_BEGIN: BEGUN for the point with initial values; answers whether the table holds that point (R10). -/
def execStageBegin (point : Byte) (s : State) : Host.Outcome State Fault Refusal :=
  .next (takeRequest inSetup
    (fun s => match toPoint point with
      | some p => .ok ([boolByte s.ctrl.points[p].isSome], setStaging (some { point := p, draft := blankDraft }) s)
      | none => .error .badOperand) s)

/-- STAGE_POINT: the seven settings together, the list kept; the operands are checked before the record (R11). -/
def execStagePoint (quorum mask policy latched group : Byte) (confirm release : Half) (s : State) :
    Host.Outcome State Fault Refusal :=
  .next (takeRequest inSetup
    (fun s =>
      match toDraft quorum mask policy latched group confirm release ((s.port.staging.map (·.draft)).getD blankDraft) with
      | none => .error .badOperand
      | some d =>
        match s.port.staging with
        | none => .error (.rejected .notStaged)
        | some g => .ok ([], setStaging (some { g with draft := d }) s)) s)

/-- STAGE_ADD: the pair at the end of the list, after the checks in their order (R12). -/
def execStageAdd (station channel : Byte) (s : State) : Host.Outcome State Fault Refusal :=
  .next (takeRequest inSetup
    (fun s => match toSource station channel with
      | none => .error .badOperand
      | some k =>
        match s.port.staging with
        | none => .error (.rejected .notStaged)
        | some g =>
          if g.draft.contributors.contains k then .error .duplicate
          else if Config.listLimit ≤ g.draft.contributors.length then .error .full
          else
            let l := g.draft.contributors ++ [k]
            .ok ([natByte l.length], setStaging (some { g with draft := { g.draft with contributors := l } }) s)) s)

/-- A confirm or release time a committed record may hold (R6, R13 check 5). -/
def timeInRange (t : Nat) : Bool := t ≤ Config.timeLimit && t % 10 == 0

/-- The first check of COMMIT_POINT that a BEGUN staging record fails; none when it passes every one (R13, checks 2 to 6).
Check 6 is written without the subtraction: pool + staged length ≤ 96 + length held. -/
def commitFailure (c : Controller) (g : Staging) : Option RejectCode :=
  if g.draft.contributors = [] then some .noContributors
  else if ¬(1 ≤ g.draft.quorum ∧ g.draft.quorum ≤ g.draft.contributors.length) then some .quorumRange
  else if g.draft.mask = 0 then some .noDirection
  else if (timeInRange g.draft.confirm && timeInRange g.draft.release) = false then some .timeRange
  else if Config.poolLimit + heldLength c.points g.point < c.counts.pool + g.draft.contributors.length then some .poolFull
  else none

/-- The record a passing COMMIT_POINT builds: the staged values, the list sorted (R14). -/
def committedRecord (g : Staging) : PointRecord := { g.draft with contributors := sortKeys g.draft.contributors }

/-- The three result bytes of COMMIT_POINT and DROP_POINT (R14, R15). -/
def TableCounts.bytes (c : TableCounts) : List Byte := [natByte c.points, natByte c.pool, natByte c.sources]

/-- COMMIT_POINT (R13, R14). -/
def execCommitPoint (s : State) : Host.Outcome State Fault Refusal :=
  .next (takeRequest inSetup
    (fun s => match s.port.staging with
      | none => .error (.rejected .notStaged)
      | some g =>
        match commitFailure s.ctrl g with
        | some r => .error (.rejected r)
        | none =>
          let c := s.ctrl.withTable (setAt s.ctrl.points g.point (some (committedRecord g)))
          .ok (c.counts.bytes, setStaging none (s.setCtrl c))) s)

/-- DROP_POINT: the record removed, the staging record left alone (R15). -/
def execDropPoint (point : Byte) (s : State) : Host.Outcome State Fault Refusal :=
  .next (takeRequest inSetup
    (fun s => match toPoint point with
      | none => .error .badOperand
      | some p =>
        if s.ctrl.points[p].isSome then
          let c := s.ctrl.withTable (setAt s.ctrl.points p none)
          .ok (c.counts.bytes, s.setCtrl c)
        else .error (.rejected .notPresent)) s)

/-- START: the rejection record cleared, into VALIDATING (R162). -/
def execStart (s : State) : Host.Outcome State Fault Refusal :=
  .next (takeRequest inSetup
    (fun s => .ok ([], s.setCtrl { s.ctrl with station := .validating, rejection := .clear })) s)

/-- VALIDATION_END: the first failed check rejects the START; with none the build is made and LISTEN entered (R163, R164).
In every other state there is no validation to end (log 4). -/
def execValidationEnd (lrxDominant : Bool) (s : State) : Host.Outcome State Fault Refusal :=
  .next (if s.ctrl.station = .validating then
      match startRejection s.ctrl s.chan with
      | some r => rejectStart r s
      | none => enterListen lrxDominant s
    else s)

/-- RESTART: from any served state to SETUP (R172). -/
def execRestart (s : State) : Host.Outcome State Fault Refusal :=
  .next (takeRequest always (fun s => .ok ([], enterSetup s)) s)

end Sys2Proof.Machine
end

