-- ==== Sys2Proof/Machine/Dispatch.lean ====
section
/-! DEFINITION. Machine/Dispatch.lean: one arm for each command, each one call of its meaning. -/

namespace Sys2Proof.Machine

def exec (i : Instr) (s : State) : Host.Outcome State Fault Refusal :=
  match i with
  | .powerOn => Sys2Proof.Machine.execPowerOn s
  | .rstLow micros => Sys2Proof.Machine.execRstLow micros s
  | .rstHigh => Sys2Proof.Machine.execRstHigh s
  | .startupComplete => Sys2Proof.Machine.execStartupComplete s
  | .csFalling => Sys2Proof.Machine.execCsFalling s
  | .csRising => Sys2Proof.Machine.execCsRising s
  | .unknownRequest code => Sys2Proof.Machine.execUnknownRequest code s
  | .setStation address rate beat scan => Sys2Proof.Machine.execSetStation address rate beat scan s
  | .setProfile profile faultLow low high faultHigh hysteresis persistence sense => Sys2Proof.Machine.execSetProfile profile faultLow low high faultHigh hysteresis persistence sense s
  | .setChannel channel enabled profile => Sys2Proof.Machine.execSetChannel channel enabled profile s
  | .setGroup group failAction startState => Sys2Proof.Machine.execSetGroup group failAction startState s
  | .stageBegin point => Sys2Proof.Machine.execStageBegin point s
  | .stagePoint quorum mask policy latched group confirm release => Sys2Proof.Machine.execStagePoint quorum mask policy latched group confirm release s
  | .stageAdd station channel => Sys2Proof.Machine.execStageAdd station channel s
  | .commitPoint => Sys2Proof.Machine.execCommitPoint s
  | .dropPoint point => Sys2Proof.Machine.execDropPoint point s
  | .start => Sys2Proof.Machine.execStart s
  | .validationEnd lrxDominant => Sys2Proof.Machine.execValidationEnd lrxDominant s
  | .readStatus => Sys2Proof.Machine.execReadStatus s
  | .readPoint point => Sys2Proof.Machine.execReadPoint point s
  | .readPointRecord point index => Sys2Proof.Machine.execReadPointRecord point index s
  | .readSource index => Sys2Proof.Machine.execReadSource index s
  | .readPeer address => Sys2Proof.Machine.execReadPeer address s
  | .readChannel channel => Sys2Proof.Machine.execReadChannel channel s
  | .readFirstOut group => Sys2Proof.Machine.execReadFirstOut group s
  | .readEvents => Sys2Proof.Machine.execReadEvents s
  | .setEventMask mask => Sys2Proof.Machine.execSetEventMask mask s
  | .ackFirstOut group => Sys2Proof.Machine.execAckFirstOut group s
  | .clearPoints mask scope => Sys2Proof.Machine.execClearPoints mask scope s
  | .restart => Sys2Proof.Machine.execRestart s
  | .clrFalling => Sys2Proof.Machine.execClrFalling s
  | .clrRising => Sys2Proof.Machine.execClrRising s
  | .clrQualified => Sys2Proof.Machine.execClrQualified s
  | .listenPeriodExpiry => Sys2Proof.Machine.execListenPeriodExpiry s
  | .settlePeriodExpiry => Sys2Proof.Machine.execSettlePeriodExpiry s
  | .beatTimerExpiry => Sys2Proof.Machine.execBeatTimerExpiry s
  | .confirmTimerExpiry point => Sys2Proof.Machine.execConfirmTimerExpiry point s
  | .releaseTimerExpiry point => Sys2Proof.Machine.execReleaseTimerExpiry point s
  | .silenceTimerExpiry peer => Sys2Proof.Machine.execSilenceTimerExpiry peer s
  | .healTimerExpiry peer => Sys2Proof.Machine.execHealTimerExpiry peer s
  | .scanStart => Sys2Proof.Machine.execScanStart s
  | .conversionComplete voltage => Sys2Proof.Machine.execConversionComplete voltage s
  | .slotStart => Sys2Proof.Machine.execSlotStart s
  | .frameComplete => Sys2Proof.Machine.execFrameComplete s
  | .abort => Sys2Proof.Machine.execAbort s
  | .receiveJoin source sequence digest beat channels => Sys2Proof.Machine.execReceiveJoin source sequence digest beat channels s
  | .receiveBeat source sequence digest verdicts => Sys2Proof.Machine.execReceiveBeat source sequence digest verdicts s
  | .receiveChange source sequence entries => Sys2Proof.Machine.execReceiveChange source sequence entries s
  | .receiveProbe source sequence targets => Sys2Proof.Machine.execReceiveProbe source sequence targets s
  | .receiveClear source sequence mask => Sys2Proof.Machine.execReceiveClear source sequence mask s
  | .receiveUnknownKind source => Sys2Proof.Machine.execReceiveUnknownKind source s
  | .duplicateAddress => Sys2Proof.Machine.execDuplicateAddress s
  | .brokenFrame reason => Sys2Proof.Machine.execBrokenFrame reason s
  | .characterGapTimeout => Sys2Proof.Machine.execCharacterGapTimeout s
  | .lineActivity => Sys2Proof.Machine.execLineActivity s

end Sys2Proof.Machine
end

