-- ==== Sys2Proof/Machine/Due.lean ====
section
/-! DEFINITION. Machine/Due.lean: the timer expiries that are due, and the choice among them (log 1, 7). -/

namespace Sys2Proof.Machine

/-- A command, if its timer runs and has no time left. -/
def dueIf (t : Option Nat) (i : Instr) : List Instr := if t = some 0 then [i] else []

/-- The expiry of a point's timer, if it is due. -/
def duePoint (s : State) (p : PointNo) : List Instr :=
  dueIf (pointTimer .confirm s p) (.confirmTimerExpiry p) ++ dueIf (pointTimer .release s p) (.releaseTimerExpiry p)

/-- The expiries of a peer's timers that are due. -/
def duePeer (s : State) (a : Address) : List Instr :=
  dueIf ((peerAt s a).bind (·.silence)) (.silenceTimerExpiry a) ++ dueIf ((peerAt s a).bind (·.heal)) (.healTimerExpiry a)

/-- The timer expiries that are due in the station state: the timers that run in it (R49, R73, R90, R120, R160, R166, R169,
R170). -/
def dueExpiries (s : State) : List Instr :=
  dueIf (if s.ctrl.station = .reset then s.ctrl.startup else none) .startupComplete
    ++ dueIf s.trip.press .clrQualified
    ++ dueIf (if s.ctrl.station = .listen then s.ctrl.listen else none) .listenPeriodExpiry
    ++ dueIf (if s.ctrl.station = .join then s.ctrl.settle else none) .settlePeriodExpiry
    ++ (if s.ctrl.station.voting then dueIf s.ctrl.beatTimer .beatTimerExpiry ++ (List.finRange 24).flatMap (duePoint s)
        else [])
    ++ (if s.ctrl.station.online then (List.finRange 16).flatMap (duePeer s) else [])
    ++ dueIf (if s.ctrl.station.clocked then s.chan.scanTimer else none) .scanStart

/-- The expiry taken first: the one that is due, or a free choice among several (log 7). -/
def chooseDue (choices : Nat) (d : Instr) (ds : List Instr) : Instr :=
  match ds with
  | [] => d
  | e :: more => ((d :: e :: more)[Config.dueChoice choices % (more.length + 2)]?).getD d

end Sys2Proof.Machine
end

