-- ==== Sys2Proof/Machine/Step.lean ====
section
/-! DEFINITION. Machine/Step.lean: one step: the command at the front of the queue, or, with none waiting, a timer expiry
that is due or one millisecond (log 1). -/

namespace Sys2Proof.Machine

/-- A step with no command waiting: an expiry that is due is taken, in a free order where several are (log 7); with none due,
1 ms passes (log 1). -/
def idleStep (s : State) : Host.Outcome State Fault Refusal :=
  match dueExpiries s with
  | [] => .next (elapse 1 s)
  | d :: ds => exec (chooseDue s.choices d ds) (s.setChoices (s.choices + 1))

/-- One step: the command at the front of the queue is taken whole, the rest of the queue waiting. -/
def step (s : State) : Host.Outcome State Fault Refusal :=
  match s.pending with
  | [] => idleStep s
  | c :: rest => exec c (s.setPending rest)

/-- The state with the command a table word spells put at the front of its queue; unchanged where the word spells none. -/
def State.withFetchWord (s : State) (nbits w : Nat) : State :=
  match decodeTableWord nbits w with
  | some i => s.setPending (i :: s.pending)
  | none => s

end Sys2Proof.Machine
end

