-- ==== Sys2Proof/Machine/Wire.lean ====
section
/-! DEFINITION. Machine/Wire.lean: the vote line as levels and bit times (R142 to R144, R150, R188): views of the state and
of a frame's characters. No command is taken bit by bit, so nothing here changes the state (log 3). -/

namespace Sys2Proof.Machine

/-- The bit time in µs (R142). -/
def LineRate.bitMicros : LineRate → Nat
  | .kbit62 => 16 | .kbit125 => 8 | .kbit250 => 4 | .kbit500 => 2

/-- The 16 MHz clocks per bit (R142). -/
def LineRate.clocksPerBit (r : LineRate) : Nat := 16 * r.bitMicros

/-- The levels of one character, dominant being true: start bit, eight data bits least significant first, stop bit; a logic 0
is dominant (R142, R143). -/
def characterLevels (b : Byte) : List Bool := true :: ((List.range 8).map fun i => !b.getLsbD i) ++ [false]

/-- The levels of a frame: a break of 12 bit times, a delimiter of 2, the characters back to back (R143, R144). -/
def frameLevels (chars : List Byte) : List Bool :=
  List.replicate 12 true ++ List.replicate 2 false ++ chars.flatMap characterLevels

/-- The levels the frame in flight drives on LTX; none while the station does not transmit, when LTX is recessive (R142). -/
def State.ltxLevels (s : State) : Option (List Bool) :=
  s.line.inFlight.map fun f => frameLevels (f.characters s.ctrl.settings.address)

/-- The line is dominant where one station drives dominant and another releases it (R142). -/
def lineLevels (a b : List Bool) : List Bool := List.zipWith (fun x y => x || y) a b

/-- The first bit in which what a station drives differs from what it reads back (R152). -/
def firstMismatch (driven read : List Bool) : Option Nat :=
  ((driven.zip read).findIdx? fun e => e.1 != e.2)

/-- The start of slot k, in bit times after the end of activity: the quiet time of 12 and k slots of 16 (R149, R150). -/
def slotStartBits (k : Nat) : Nat := 12 + 16 * k

end Sys2Proof.Machine
end

