-- ==== Sys2Proof/Safety.lean ====
section
/-! DEFINITION. Safety.lean: what is meant to hold in every state of the block, part by part, in the terms the statements
use. Each predicate holds at `State.reset`, and each is meant to be kept by every step from any state that has it. -/

namespace Sys2Proof.Machine

/-! ### The point table (R1 to R6, R9) -/

/-- A record a committed table may hold (R2, R3, R4, R6, R9). -/
def PointRecord.committed (r : PointRecord) : Prop :=
  1 ≤ r.contributors.length ∧ r.contributors.length ≤ 8 ∧ (r.contributors.Pairwise fun a b => a.value < b.value) ∧
    1 ≤ r.quorum ∧ r.quorum ≤ r.contributors.length ∧ r.mask ≠ 0 ∧
    r.confirm ≤ 2550 ∧ r.confirm % 10 = 0 ∧ r.release ≤ 2550 ∧ r.release % 10 = 0

/-- A list the staging record may hold: at most 8 pairs, no pair twice (section 1.5). -/
def Staging.listOk (g : Staging) : Prop := g.draft.contributors.length ≤ 8 ∧ g.draft.contributors.Nodup

/-- The point table: every record committed, the counts those of the table, the pool at most 96, and at most 48 sources in
LISTEN, JOIN, RUN and FAULTED (R1, R9). -/
def TableInv (s : State) : Prop :=
  (∀ p : PointNo, ∀ r ∈ s.ctrl.points[p], r.committed) ∧ (∀ g ∈ s.port.staging, g.listOk) ∧
    s.ctrl.counts = countTable s.ctrl.points ∧ s.ctrl.counts.pool ≤ 96 ∧
    (s.ctrl.station.clocked = true → s.ctrl.counts.sources ≤ 48)

/-! ### The line controller (R131, R135, R140, R147, R154, R158) -/

/-- The bounds of the transmit queue: at most one JOIN, one BEAT, one CLEAR (its mask not empty), one CHANGE for each
contributing channel, four PROBE items of distinct targets other than the own address (R131). -/
def queueBounded (own : Address) (ch : Classifier) (q : List SendItem) : Prop :=
  q.count .join ≤ 1 ∧ q.count .beat ≤ 1 ∧ q.countP (·.isClear) ≤ 1 ∧ .clear 0 ∉ q ∧
    (∀ c : Channel, q.countP (·.isChangeOf c) ≤ if ch.channels[c].contributing then 1 else 0) ∧
    q.countP (·.isProbe) ≤ 4 ∧ (∀ a : Address, q.count (.probe a) ≤ if a = own then 0 else 1)

/-- The items a frame in flight holds are those its kind takes (R134, R135). -/
def InFlight.itemsFit (f : InFlight) : Prop :=
  match f.kind with
  | .join => f.items = [.join]
  | .beat => f.items = [.beat]
  | .change => f.items ≠ [] ∧ ∀ i ∈ f.items, i.isChange = true
  | .probe => f.items ≠ [] ∧ ∀ i ∈ f.items, i.isProbe = true
  | .clear => f.items.length = 1 ∧ ∀ i ∈ f.items, i.isClear = true

/-- The items in flight. -/
def LineUnit.itemsInFlight (l : LineUnit) : List SendItem :=
  match l.inFlight with
  | some f => f.items
  | none => []

/-- The line controller in its station state: queue and frame in flight only in JOIN and RUN, both bounded; the JOIN item is
queued or in flight exactly while the settle period of JOIN has not begun; L known from JOIN on; the abort count below 8 but
in FAULTED; slots and receiver only in LISTEN, JOIN and RUN, the receiver collecting what self sends (R131, R135, R140, R147, R153, R154, R158, R168). -/
def LineInv (s : State) : Prop :=
  (s.ctrl.station.voting = false → s.line.queue = [] ∧ s.line.inFlight = none) ∧
    queueBounded s.ctrl.settings.address s.chan s.line.queue ∧
    queueBounded s.ctrl.settings.address s.chan s.line.itemsInFlight ∧
    (∀ f ∈ s.line.inFlight, f.itemsFit ∧ s.line.slots = .stopped ∧ s.line.receiver = .collecting) ∧
    s.line.queue.count .join + s.line.itemsInFlight.count .join
      = (if s.ctrl.station = .join ∧ s.ctrl.settle = none then 1 else 0) ∧
    (s.ctrl.settle.isSome = true → s.ctrl.station = .join) ∧
    (s.ctrl.station.clocked = false → s.line = .idle) ∧
    (s.ctrl.station = .listen → s.line.sequence = 0 ∧ s.line.aborts = 0) ∧
    (s.ctrl.station.voting = true → s.line.lastSender.isSome = true) ∧
    s.line.aborts ≤ 8 ∧ (s.ctrl.station ≠ .faulted → s.line.aborts < 8) ∧
    (s.ctrl.station.online = true ↔ s.line.slots ≠ .notKept) ∧ (s.ctrl.station.online = true ↔ s.line.receiver ≠ .idle)

/-! ### The station controller (R128, R159, R163, R166, R169, R180) -/

/-- The station controller in its station state: which periods and timers can run, when a cause, a rejection and a digest are
held and that the digest is the one of the table; the ranges of the settings (R128, R159, R160, R163, R180). -/
def LifeInv (s : State) : Prop :=
  LineInv s ∧
    (s.ctrl.startup.isSome = true → s.ctrl.station = .reset) ∧
    (s.ctrl.cause ≠ .none ↔ s.ctrl.station = .faulted) ∧
    (s.ctrl.rejection ≠ .clear → s.ctrl.station = .setup) ∧
    s.ctrl.digest = (if s.ctrl.station.clocked then some (digestOf s.ctrl.settings.beat s.ctrl.points) else none) ∧
    (s.ctrl.station.clocked = false → s.ctrl.tick = 0) ∧
    (s.ctrl.listen.isSome = true ↔ s.ctrl.station = .listen) ∧
    (s.ctrl.beatTimer.isSome = true ↔ s.ctrl.station = .run ∨ (s.ctrl.station = .join ∧ s.ctrl.settle.isSome = true)) ∧
    (s.chan.scanTimer.isSome = true ↔ s.ctrl.station.clocked = true) ∧
    2 ≤ s.ctrl.settings.beat ∧ s.ctrl.settings.beat ≤ 255 ∧ 1 ≤ s.ctrl.settings.scan ∧ s.ctrl.settings.scan ≤ 255

/-! ### The channel classifier (R83, R84, R88, R90, R95) -/

/-- The ranges of a profile (R84). -/
def Profile.inRange (p : Profile) : Prop :=
  p.faultLow ≤ 4095 ∧ p.low ≤ 4095 ∧ p.high ≤ 4095 ∧ p.faultHigh ≤ 4095 ∧ p.hysteresis ≤ 255 ∧ 1 ≤ p.persistence ∧
    p.persistence ≤ 15

/-- A channel record with persistence `n`: the count is 0 exactly with no candidate and stays below the persistence, the
candidate differs from the verdict, the code has 12 bits (R83, R93). -/
def ChannelRecord.settled (n : Nat) (c : ChannelRecord) : Prop :=
  (c.count = 0 ↔ c.candidate = none) ∧ c.count < n ∧ (∀ k ∈ c.candidate, k.verdict ≠ c.verdict) ∧ c.lastCode ≤ 4095

/-- The classifier in its station state: before LISTEN every record is fresh; from LISTEN on a channel is OFF exactly when it
is disabled, a disabled one has no candidate, and a channel contributes exactly when the table names it with the own address,
and is then enabled; the scan holds enabled channels in ascending order (R83, R84, R88, R90, R94, R95, R100). -/
def ChannelInv (s : State) : Prop :=
  (∀ p : ProfileNo, s.chan.profiles[p].inRange) ∧
    (∀ c : Channel, s.chan.channels[c].settled s.chan.profiles[s.chan.channels[c].profile].persistence) ∧
    (∀ c : Channel, s.chan.channels[c].contributing =
      (s.ctrl.station.clocked && tableNames s.ctrl.points { station := s.ctrl.settings.address, channel := c })) ∧
    (s.ctrl.station.clocked = true → ∀ c : Channel,
      (s.chan.channels[c].verdict = .off ↔ s.chan.channels[c].enabled = false) ∧
      (s.chan.channels[c].enabled = false → s.chan.channels[c].candidate = none) ∧
      (s.chan.channels[c].contributing = true → s.chan.channels[c].enabled = true)) ∧
    (s.ctrl.station.clocked = false → s.chan.scan = [] ∧ ∀ c : Channel,
      (s.chan.channels[c].verdict = .off ∨ s.chan.channels[c].verdict = .unsettled) ∧
      s.chan.channels[c].candidate = none ∧ s.chan.channels[c].lastCode = 0) ∧
    (∀ c ∈ s.chan.scan, s.chan.channels[c].enabled = true) ∧ s.chan.scan.Pairwise (· < ·)

/-! ### The peer table and the verdict table (R19 to R23, R32, R103, R104) -/

/-- A peer entry other than the own one: the heal timer runs only in GAPPED, within one beat interval; the silence timer
within three, and always while the peer is LIVE, GAPPED or EXCLUDED; an UNHEARD peer has announced no digest (R103, R104,
R115, R116). -/
def PeerEntry.fits (beatMs : Nat) (e : PeerEntry) : Prop :=
  (e.heal.isSome = true ↔ e.state = .gapped) ∧ (∀ t ∈ e.heal, t ≤ beatMs) ∧ (∀ t ∈ e.silence, t ≤ 3 * beatMs) ∧
    (e.state = .live ∨ e.state = .gapped ∨ e.state = .excluded → e.silence.isSome = true) ∧
    (e.state = .unheard → e.digest = none ∧ e.channels = none)

/-- The peer table stands from LISTEN to FAULTED; SELF stands at the own address alone, with nothing else in its entry (R103,
R104). -/
def PeerInv (s : State) : Prop :=
  (s.peers.isSome = true ↔ s.ctrl.station.clocked = true) ∧
    ∀ t ∈ s.peers, ∀ a : Address,
      if a = s.ctrl.settings.address then t[a] = builtPeer s.ctrl.settings.address a
      else t[a].state ≠ .self ∧ t[a].fits s.beatMs

/-- The verdict table: its keys and references those of the point table, in ascending order, while it stands; an own entry
holds neither UNKNOWN nor OFF; a source whose station is UNHEARD, SILENT or EXCLUDED holds UNKNOWN (R19, R20, R21, R23, R25,
R32). -/
def VerdictInv (s : State) : Prop :=
  PeerInv s ∧
    s.sources.map (·.key) = (if s.ctrl.station.clocked then distinctKeys (poolEntries s.ctrl.points) else []) ∧
    ∀ e ∈ s.sources,
      e.refs = referencesOf s.ctrl.points e.key ∧
      e.origin = (if e.key.station = s.ctrl.settings.address then .own else .line) ∧
      (e.key.station = s.ctrl.settings.address → e.verdict ≠ .unknown ∧ e.verdict ≠ .line .off) ∧
      (let p := stationState s.ctrl.settings.address s.peers e.key.station
       p = .unheard ∨ p = .silent ∨ p = .excluded → e.verdict = .unknown)

/-! ### The vote engine (R38 to R40, R49, R56 to R58) -/

/-- The timer of a context: CONFIRM exactly in ARMING, RELEASE exactly in RELEASING, within the time of the record (R38,
R49). -/
def timerFits (r : PointRecord) (c : PointContext) : Prop :=
  match c.state, c.timer with
  | .arming, some t => t.kind = .confirm ∧ t.remaining ≤ r.confirm
  | .releasing, some t => t.kind = .release ∧ t.remaining ≤ r.release
  | .arming, none | .releasing, none => False
  | .clear, t | .tripped, t | .held, t => t = none

/-- A context over its record: one standing for each contributor, the counts those of R40, the timer of its state, HELD only
if latched and RELEASING only if not (R38, R40, R57). -/
def contextFits (r : PointRecord) (c : PointContext) : Prop :=
  c.standings.length = r.contributors.length ∧ c = recount r c.standings c ∧ timerFits r c ∧
    (c.state = .held → r.latched = true) ∧ (c.state = .releasing → r.latched = false)

/-- The vote engine in its station state: contexts stand for the points present from LISTEN to FAULTED; every point is CLEAR
with the build counts in LISTEN; in JOIN and RUN a point is in ARMING or TRIPPED exactly when its count reaches its effective
quorum (R38, R39, R56, R57, R58). -/
def VoteInv (s : State) : Prop :=
  (s.ctrl.station.clocked = false → ∀ p : PointNo, s.contexts[p] = none) ∧
    (s.ctrl.station.clocked = true → ∀ p : PointNo, s.contexts[p].isSome = s.ctrl.points[p].isSome) ∧
    ∀ p : PointNo, ∀ r ∈ s.ctrl.points[p], ∀ c ∈ s.contexts[p],
      contextFits r c ∧ (s.ctrl.station = .listen → c = builtContext r) ∧
      (s.ctrl.station.voting = true → (c.state = .arming ∨ c.state = .tripped ↔ c.effectiveQuorum ≤ c.count))

/-- In JOIN and RUN the standing list of every context is the one derived from the verdict table and the peer table, so that
its counts are those of the standings the table derives (R36, R42). -/
def DerivedInv (s : State) : Prop :=
  TableInv s ∧ VerdictInv s ∧ VoteInv s ∧
    (s.ctrl.station.voting = true → ∀ p : PointNo, ∀ r ∈ s.ctrl.points[p], ∀ c ∈ s.contexts[p],
      c.standings = derivedStandings s r)

/-! ### The trip output unit (R67 to R71, R77 to R79) -/

/-- Whether a point stands in TRIPPED, RELEASING or HELD and names the group. -/
def assertsGroup (s : State) (g : GroupNo) (p : PointNo) : Bool :=
  match s.ctrl.points[p], s.contexts[p] with
  | some r, some c => r.group == g && c.state.asserting
  | _, _ => false

/-- The output a start state calls for (R68). -/
def StartState.output : StartState → Output
  | .asserted => .asserted
  | .released => .released

/-- The groups in their station state: each asserting set holds exactly the group's points in TRIPPED, RELEASING or HELD,
ascending; each output is the one R68 gives, in RUN ASSERTED exactly while the set is not empty (R67, R68, R69, R71). -/
def GroupInv (s : State) : Prop :=
  (s.ctrl.station.clocked = false → ∀ p : PointNo, s.contexts[p] = none) ∧
    ∀ g : GroupNo,
      s.trip.groups[g].asserting = (List.finRange 24).filter (assertsGroup s g) ∧
      match s.ctrl.station with
      | .reset | .setup | .validating => s.trip.groups[g].output = .highImpedance
      | .listen | .join => s.trip.groups[g].output = s.trip.groups[g].startState.output
      | .run => s.trip.groups[g].output = if s.trip.groups[g].asserting = [] then .released else .asserted
      | .faulted => s.trip.groups[g].output ≠ .highImpedance ∧
          (s.trip.groups[g].failAction = .trip → s.trip.groups[g].output = .asserted)

/-- The first-out records: EMPTY outside RUN and FAULTED, the subsequent count at most 255 (R77, R78, R79). -/
def FirstOutInv (s : State) : Prop :=
  (s.ctrl.station ≠ .run ∧ s.ctrl.station ≠ .faulted → ∀ g : GroupNo, s.trip.firstOut[g] = none) ∧
    ∀ g : GroupNo, ∀ f ∈ s.trip.firstOut[g], f.subsequent ≤ 255

/-! ### What one command may touch -/

/-- The configuration: everything that is loaded in SETUP and frozen by START (R161). -/
def sameConfiguration (s t : State) : Prop :=
  t.ctrl.settings = s.ctrl.settings ∧ t.ctrl.points = s.ctrl.points ∧ t.chan.profiles = s.chan.profiles ∧
    (∀ c : Channel, t.chan.channels[c].enabled = s.chan.channels[c].enabled ∧
      t.chan.channels[c].profile = s.chan.channels[c].profile) ∧
    (∀ g : GroupNo, t.trip.groups[g].failAction = s.trip.groups[g].failAction ∧
      t.trip.groups[g].startState = s.trip.groups[g].startState)

/-- The station states that take a request, by the table of section 10.3. False for every command that is no request. -/
def takenIn : Instr → StationState → Bool
  | .setStation .., st | .setProfile .., st | .setChannel .., st | .setGroup .., st | .stageBegin _, st | .stagePoint .., st
  | .stageAdd .., st | .commitPoint, st | .dropPoint _, st | .start, st => inSetup st
  | .readStatus, st | .restart, st => always st
  | .readPoint _, st | .readPointRecord .., st | .readSource _, st | .readPeer _, st | .readChannel _, st
  | .readFirstOut _, st | .readEvents, st | .setEventMask _, st | .ackFirstOut _, st | .unknownRequest _, st =>
    notValidating st
  | .clearPoints .., st => inRun st
  | .powerOn, _ | .rstLow _, _ | .rstHigh, _ | .startupComplete, _ | .csFalling, _ | .csRising, _ | .validationEnd _, _
  | .clrFalling, _ | .clrRising, _ | .clrQualified, _ | .listenPeriodExpiry, _ | .settlePeriodExpiry, _
  | .beatTimerExpiry, _ | .confirmTimerExpiry _, _ | .releaseTimerExpiry _, _ | .silenceTimerExpiry _, _
  | .healTimerExpiry _, _ | .scanStart, _ | .conversionComplete _, _ | .slotStart, _ | .frameComplete, _ | .abort, _
  | .receiveJoin .., _ | .receiveBeat .., _ | .receiveChange .., _ | .receiveProbe .., _ | .receiveClear .., _
  | .receiveUnknownKind _, _ | .duplicateAddress, _ | .brokenFrame _, _ | .characterGapTimeout, _ | .lineActivity, _ => false


/-! ### The words of the statements -/

/-- The port serves: outside RESET, with a transaction collecting its request (R174, R175). -/
def State.serves (s : State) : Prop := s.ctrl.station ≠ .reset ∧ s.port.transaction = .collecting

/-- Every item of every block at its value after power-on or RST, and the output pins as RESET has them (R17, R63, R65, R77,
R84, R100, R154, R159, R160, R187). -/
def powerOnValues (s : State) : Prop :=
  (s.ctrl.station = .reset ∧ s.ctrl.cause = .none ∧ s.ctrl.rejection = { reason := .none, item := none } ∧
    s.ctrl.digest = none ∧ s.ctrl.tick = 0 ∧ s.ctrl.listen = none ∧ s.ctrl.settle = none ∧ s.ctrl.beatTimer = none) ∧
  s.ctrl.settings = { address := 0, rate := .kbit125, beat := 10, scan := 10 } ∧
  ((∀ p : PointNo, s.ctrl.points[p] = none) ∧ s.ctrl.counts = { points := 0, pool := 0, sources := 0 }) ∧
  (∀ c : Channel, s.chan.channels[c] =
    { enabled := false, profile := 0, contributing := false, lastCode := 0, verdict := .off, candidate := none, count := 0 }) ∧
  (∀ p : ProfileNo, s.chan.profiles[p] =
    { faultLow := 0, low := 0, high := 0, faultHigh := 0, hysteresis := 0, persistence := 1, sense := .outside }) ∧
  (s.chan.scan = [] ∧ s.chan.scanTimer = none) ∧
  (s.line.queue = [] ∧ s.line.inFlight = none ∧ s.line.lastSender = none ∧ s.line.slots = .notKept ∧ s.line.receiver = .idle ∧
    s.line.sequence = 0 ∧ s.line.aborts = 0) ∧
  (s.peers = none ∧ s.sources = [] ∧ ∀ p : PointNo, s.contexts[p] = none) ∧
  (∀ g : GroupNo, s.trip.groups[g] = { failAction := .trip, startState := .released, asserting := [], output := .highImpedance } ∧
    s.trip.firstOut[g] = none) ∧
  s.trip.press = none ∧
  (s.port.staging = none ∧ s.port.cursor = { group := 0, position := none } ∧ s.port.flags = 0 ∧ s.port.mask = 0) ∧
  (s.intLow = false ∧ (∀ k, s.sdoByte k = none) ∧ s.transmitting = false ∧ ∀ g : GroupNo, s.tripPin g = .highImpedance)

/-- Whether a present record names a pair. -/
def named (t : PointTable) (k : SourceKey) : Prop := ∃ p : PointNo, ∃ r ∈ t[p], k ∈ r.contributors

/-- The counts of a table, counted: the records present, their list lengths together, the distinct pairs (R1). -/
def countedOf (t : PointTable) : TableCounts :=
  { points := (List.finRange 24).countP fun p => t[p].isSome
    pool := ((List.finRange 24).map (heldLength t)).sum
    sources := (poolEntries t).toFinset.card }

/-- A channel named by an own contributor that is disabled (R87, R163). -/
def ownDisabled (s : State) (c : Channel) : Prop :=
  named s.ctrl.points { station := s.ctrl.settings.address, channel := c } ∧ s.chan.channels[c].enabled = false

/-- A profile that is not valid (R84), read as integers. -/
def profileInvalid (p : Profile) : Prop :=
  ¬((p.faultLow : Int) < p.low ∧ (p.low : Int) < p.high ∧ (p.high : Int) < p.faultHigh ∧
    2 * (p.hysteresis : Int) < (p.high : Int) - p.low)

/-- An enabled channel whose profile is not valid (R87). -/
def badProfile (s : State) (c : Channel) : Prop :=
  s.chan.channels[c].enabled = true ∧ profileInvalid s.chan.profiles[s.chan.channels[c].profile]

/-- The distinct pairs the records up to point `p` name are more than 48 (R163). -/
def exceedsAt (s : State) (p : PointNo) : Prop :=
  s.ctrl.points[p].isSome = true ∧
    48 < (((List.finRange 24).filter (· ≤ p)).flatMap fun q =>
      match s.ctrl.points[q] with
      | some r => r.contributors
      | none => []).toFinset.card

/-- The first number with a property. -/
def firstWith {n : Nat} (P : Fin n → Prop) (i : Fin n) : Prop := P i ∧ ∀ j < i, ¬P j

/-- A channel record set afresh: the settings kept, UNSETTLED if enabled and OFF if not, no candidate (R100). -/
def freshChannel (contributing : Bool) (lastCode : Nat) (c : ChannelRecord) : ChannelRecord :=
  { enabled := c.enabled, profile := c.profile, contributing := contributing, lastCode := lastCode,
    verdict := if c.enabled then .unsettled else .off, candidate := none, count := 0 }

/-- A START rejected with a record: back in SETUP with START_DONE, the channel records set afresh, nothing else changed (R100,
R163). -/
def startRejected (r : Rejection) (s t : State) : Prop :=
  t.ctrl = { s.ctrl with station := .setup, rejection := r } ∧
    (∀ c : Channel, t.chan.channels[c] = freshChannel false 0 s.chan.channels[c]) ∧
    t.chan.profiles = s.chan.profiles ∧ t.chan.scan = [] ∧ t.chan.scanTimer = none ∧
    t.port = { s.port with flags := s.port.flags ||| 0x40 } ∧
    t.pins = s.pins ∧ t.line = s.line ∧ t.peers = s.peers ∧ t.sources = s.sources ∧ t.contexts = s.contexts ∧
    t.trip = s.trip

/-- A START that passes every check of R163. -/
def startPasses (s : State) : Prop :=
  (∃ p : PointNo, s.ctrl.points[p].isSome = true) ∧ (∀ c : Channel, ¬ownDisabled s c) ∧ (∀ c : Channel, ¬badProfile s c) ∧
    ∀ p : PointNo, ¬exceedsAt s p

/-- Whether a clear of the mask returns the point to CLEAR: it is named and stands in HELD (R48, R72). -/
def clearsPoint (m : PointMask) (s : State) (p : PointNo) : Bool :=
  match s.ctrl.points[p], s.contexts[p] with
  | some _, some c => m.getLsbD p.val && c.state == .held
  | _, _ => false

/-- Whether a clear of the mask is refused at the point: it is named, latched and stands in TRIPPED (R52). -/
def refusesClear (m : PointMask) (s : State) (p : PointNo) : Bool :=
  match s.ctrl.points[p], s.contexts[p] with
  | some r, some c => m.getLsbD p.val && c.state == .tripped && r.latched
  | _, _ => false

/-- Whether a point that the clear returns to CLEAR names the group. -/
def clearsInGroup (m : PointMask) (s : State) (g : GroupNo) (p : PointNo) : Bool :=
  match s.ctrl.points[p] with
  | some r => clearsPoint m s p && r.group == g
  | none => false

/-- A clear mask taken in RUN: HELD points named return to CLEAR and leave their groups, a group left empty by it is released,
latched TRIPPED points named refuse and set REFUSED, first-out records stand (R48, R52, R67, R69, R72). -/
def clearsTaken (m : PointMask) (s t : State) : Prop :=
  (∀ p : PointNo, t.contexts[p] =
    if clearsPoint m s p then s.contexts[p].map fun c => { c with state := .clear, timer := none } else s.contexts[p]) ∧
  (∀ g : GroupNo, t.trip.groups[g] =
    { s.trip.groups[g] with
      asserting := s.trip.groups[g].asserting.filter fun p => !clearsInGroup m s g p
      output := if s.trip.groups[g].asserting ≠ [] ∧
          (s.trip.groups[g].asserting.filter fun p => !clearsInGroup m s g p) = [] then .released
        else s.trip.groups[g].output }) ∧
  t.port = { s.port with flags := if (List.finRange 24).any (refusesClear m s) then s.port.flags ||| 0x10 else s.port.flags } ∧
  t.trip.firstOut = s.trip.firstOut ∧ t.trip.press = s.trip.press ∧
  t.pending = s.pending ∧ t.pins = s.pins ∧ t.ctrl = s.ctrl ∧ t.chan = s.chan ∧ t.line = s.line ∧ t.peers = s.peers ∧
  t.sources = s.sources ∧ t.choices = s.choices

/-- A source entry after its verdict is written at a tick: updated-at changes with the verdict alone (R20, R26). -/
def writtenEntry (tick : Tick) (v : Verdict) (e : SourceEntry) : SourceEntry :=
  if e.verdict = v then e else { e with verdict := v, updatedAt := tick }

/-- The keys of the source map are distinct (R19). -/
def keysDistinct (s : State) : Prop := (s.sources.map (·.key)).Nodup

/-- A source entry after the sources of a peer are discarded (R31). -/
def discardedEntry (tick : Tick) (a : Address) (e : SourceEntry) : SourceEntry :=
  if e.key.station = a ∧ e.origin = .line then writtenEntry tick .unknown e else e

/-- What every frame and peer timer leaves alone: the station controller, the classifier, the pins and the settings of groups
and port. -/
def keepsStation (s t : State) : Prop :=
  t.ctrl = s.ctrl ∧ t.chan = s.chan ∧ t.pins = s.pins ∧ t.pending = s.pending ∧ t.trip.press = s.trip.press ∧
    (∀ g : GroupNo, t.trip.groups[g].failAction = s.trip.groups[g].failAction ∧
      t.trip.groups[g].startState = s.trip.groups[g].startState) ∧
    t.port.transaction = s.port.transaction ∧ t.port.answer = s.port.answer ∧ t.port.staging = s.port.staging ∧
    t.port.mask = s.port.mask ∧ s.port.flags &&& t.port.flags = s.port.flags

/-- The votes are as they were: contexts, groups, first-out records and cursor. -/
def keepsVotes (s t : State) : Prop :=
  t.contexts = s.contexts ∧ t.trip.groups = s.trip.groups ∧ t.trip.firstOut = s.trip.firstOut ∧ t.port.cursor = s.port.cursor

/-- A context whose counts were taken afresh, after the one transition they call for by the table of section 3.4 (R44 to R48). -/
def movedByCounts (r : PointRecord) (d : PointContext) : PointContext :=
  if d.effectiveQuorum ≤ d.count then
    match d.state with
    | .clear =>
      if 0 < r.confirm then { d with state := .arming, timer := some { kind := .confirm, remaining := r.confirm } }
      else { d with state := .tripped, timer := none }
    | .arming | .tripped => d
    | .releasing | .held => { d with state := .tripped, timer := none }
  else
    match d.state with
    | .clear | .releasing | .held => d
    | .arming => { d with state := .clear, timer := none }
    | .tripped =>
      if r.latched then { d with state := .held, timer := none }
      else if 0 < r.release then
        { d with state := .releasing, timer := some { kind := .release, remaining := r.release } }
      else { d with state := .clear, timer := none }

/-- The votes follow the tables from `s` to `t`. In LISTEN they are as they were (R36). In JOIN and RUN a point whose standings
the tables now derive otherwise is counted over the new ones and makes the one transition they call for, and every other point
is left as it was (R35, R41 to R48). -/
def votesFollow (s t : State) : Prop :=
  (s.ctrl.station.voting = false → keepsVotes s t) ∧
    (s.ctrl.station.voting = true → DerivedInv s → ∀ p : PointNo,
      (s.contexts[p] = none → t.contexts[p] = none) ∧
      ∀ r ∈ s.ctrl.points[p], ∀ c ∈ s.contexts[p],
        t.contexts[p] = some (if derivedStandings t r = derivedStandings s r then c
          else movedByCounts r (recount r (derivedStandings t r) c)))

/-- The event flags but TRIP and FIRST_OUT: `raised` are set, every other one is as it was (R119, R183). -/
def flagsRaised (raised : BitVec 7) (s t : State) : Prop := t.port.flags &&& 0x7C = (s.port.flags &&& 0x7C) ||| raised

/-- `t` is one update of the verdict table taken in `u`, with the notices it passes, then the flags `raised` set; the line may
hold more items. What an update and its notices do, the captures and TRIP and FIRST_OUT among it, is stated of `applyUpdate` and
`takeNotice` (R26, R35, R43). -/
def madeByUpdate (u : State) (raised : BitVec 7) (t : State) : Prop :=
  ∃ (ws : List Write) (after : Option PeerTable) (w : State), w = applyUpdate ws after u ∧
    t = (w.setPort { w.port with flags := w.port.flags ||| raised }).setLine t.line

/-- What the trip output unit does when point `p` with record `r` went from state `before` to the context `d` by an evaluation.
With the state unchanged, nothing. Else the asserting set of its group gains or loses the point; in RUN the output follows the
set, with TRIP set as it becomes asserted; and in RUN the entry into TRIPPED from CLEAR or ARMING captures an EMPTY first-out
record, with FIRST_OUT set and a cursor on that group rewound, or counts in a CAPTURED one. All else the unit and the port hold,
the other event flags and the cursor on another group among it, is as it was (R54, R55, R67, R69, R78, R79, R82). -/
def tripUnitFollows (p : PointNo) (r : PointRecord) (before : PointState) (d : PointContext) (s t : State) : Prop :=
  (d.state = before → t.trip = s.trip ∧ t.port = s.port) ∧
    (d.state ≠ before →
      (∀ g : GroupNo, g ≠ r.group → t.trip.groups[g] = s.trip.groups[g] ∧ t.trip.firstOut[g] = s.trip.firstOut[g]) ∧
      t.trip.press = s.trip.press ∧
      (∀ q : PointNo, q ∈ t.trip.groups[r.group].asserting ↔
        if q = p then d.state = .tripped ∨ d.state = .releasing ∨ d.state = .held
        else q ∈ s.trip.groups[r.group].asserting) ∧
      ∀ (trips asserts captures : Bool),
        trips = decide (s.ctrl.station = .run ∧ (before = .clear ∨ before = .arming) ∧ d.state = .tripped) →
        asserts = decide (s.ctrl.station = .run ∧ s.trip.groups[r.group].asserting = [] ∧
          t.trip.groups[r.group].asserting ≠ []) →
        captures = (trips && s.trip.firstOut[r.group].isNone) →
        t.trip.groups[r.group] = { s.trip.groups[r.group] with
          asserting := t.trip.groups[r.group].asserting
          output :=
            if asserts then .asserted
            else if s.ctrl.station = .run ∧ s.trip.groups[r.group].asserting ≠ [] ∧ t.trip.groups[r.group].asserting = []
              then .released
            else s.trip.groups[r.group].output } ∧
        t.trip.firstOut[r.group] =
          (if captures then some
            { point := p, tick := s.ctrl.tick, subsequent := 0, cause := .tripEvent
              snapshot := (r.contributors.zip d.standings).map fun e => { source := e.1, standing := e.2 } }
          else if trips then
            s.trip.firstOut[r.group].map fun f =>
              { f with subsequent := if f.subsequent < 255 then f.subsequent + 1 else 255 }
          else s.trip.firstOut[r.group]) ∧
        t.port = { s.port with
          flags := (s.port.flags ||| if asserts then 0x01 else 0) ||| if captures then 0x02 else 0
          cursor := if captures ∧ s.port.cursor.group = r.group then { group := r.group, position := none } else s.port.cursor })

/-- Entry to FAULTED from `u`: the cause taken, FAULT set, the periods and the beat timer stopped, a frame in flight cut off, the
queue emptied, slot count and receiver off, each group by its fail action; the votes, the peers, the sources, the channel
records and the first-out records as they were (R71, R133, R138, R158, R171). -/
def entersFaulted (cause : FaultCause) (u t : State) : Prop :=
  t.ctrl = { u.ctrl with station := .faulted, cause := cause, listen := none, settle := none, beatTimer := none } ∧
  t.line = { u.line with queue := [], inFlight := none, slots := .notKept, receiver := .idle } ∧
  (∀ g : GroupNo, t.trip.groups[g] = { u.trip.groups[g] with
    output := if u.trip.groups[g].failAction = .trip then .asserted else u.trip.groups[g].output }) ∧
  t.trip.firstOut = u.trip.firstOut ∧ t.trip.press = u.trip.press ∧
  t.port = { u.port with flags := u.port.flags ||| 0x20 } ∧
  t.chan = u.chan ∧ t.peers = u.peers ∧ t.sources = u.sources ∧ t.contexts = u.contexts ∧ t.pins = u.pins ∧
  t.pending = u.pending ∧ t.choices = u.choices

/-- A command is the expiry of a timer that runs in the station state and has no ms left (R49, R73, R90, R120, R160, R166, R169,
R170). -/
def isDue (s : State) (i : Instr) : Prop :=
  (i = .startupComplete ∧ s.ctrl.station = .reset ∧ s.ctrl.startup = some 0) ∨
  (i = .clrQualified ∧ s.trip.press = some 0) ∨
  (i = .listenPeriodExpiry ∧ s.ctrl.station = .listen ∧ s.ctrl.listen = some 0) ∨
  (i = .settlePeriodExpiry ∧ s.ctrl.station = .join ∧ s.ctrl.settle = some 0) ∨
  (i = .beatTimerExpiry ∧ s.ctrl.station.voting = true ∧ s.ctrl.beatTimer = some 0) ∨
  (∃ p : PointNo, ∃ c ∈ s.contexts[p], s.ctrl.station.voting = true ∧
    (i = .confirmTimerExpiry p ∧ c.timer = some { kind := .confirm, remaining := 0 } ∨
      i = .releaseTimerExpiry p ∧ c.timer = some { kind := .release, remaining := 0 })) ∨
  (∃ v ∈ s.peers, ∃ a : Address, s.ctrl.station.online = true ∧
    (i = .silenceTimerExpiry a ∧ v[a].silence = some 0 ∨ i = .healTimerExpiry a ∧ v[a].heal = some 0)) ∨
  (i = .scanStart ∧ s.ctrl.station.clocked = true ∧ s.chan.scanTimer = some 0)

/-- The commands that stand for a frame the receiver has collected whole. -/
def carriesFrame (i : Instr) : Prop :=
  (encodeFrame i).isSome = true ∨ (∃ a, i = .receiveUnknownKind a) ∨ i = .duplicateAddress

/-- The queue after one insertion of a PROBE item, in JOIN and RUN (R132). -/
def probed (s : State) (a : Address) (q : List SendItem) : List SendItem :=
  if s.ctrl.station.voting = true ∧ SendItem.probe a ∉ q ∧ q.countP (·.isProbe) < 4 then q ++ [.probe a] else q

/-- The bookkeeping of every frame at its sender's entry (R106). -/
def heardBy (s : State) (sequence : Byte) (e : PeerEntry) : PeerEntry :=
  { e with expected := some (sequence + 1), lastHeard := some s.ctrl.tick, silence := some (3 * (10 * s.ctrl.settings.beat)) }

/-- The last verdict code a CHANGE body names for a channel (R29, R126). -/
def lastEntryFor (entries : List Byte) (c : Channel) : Option (BitVec 4) :=
  ((entries.filter fun b => (highNibble b).toNat == c.val).getLast?).map lowNibble

/-- A receivable moment: LISTEN, JOIN or RUN, self not transmitting, a frame in collection, the peer table standing, the keys of
the source map distinct (R105, R129, R145). -/
def State.hears (s : State) (v : PeerTable) : Prop :=
  s.ctrl.station.online = true ∧ s.line.inFlight = none ∧
    ((∃ b, s.line.receiver = .timing b) ∨ s.line.receiver = .collecting) ∧ s.peers = some v ∧ keysDistinct s

end Sys2Proof.Machine
end

