-- ==== Sys2Proof/WellFormed.lean ====
section
/-! DEFINITION. WellFormed.lean: which commands can be sent at all. A command that is not well-formed names something no
sender can send; `exec` still answers it by the nearest rule (a frame whose body does not fit its kind is a broken frame). -/

namespace Sys2Proof

/-- The codes that name a request (section 11.4). -/
def requestCodes : List Byte :=
  [0x10, 0x11, 0x12, 0x13, 0x14, 0x15, 0x16, 0x17, 0x18, 0x19, 0x20, 0x21, 0x22, 0x23, 0x24, 0x25, 0x26, 0x27, 0x30, 0x31,
   0x32, 0x3F]

/-- Well-formed commands: UNKNOWN_REQUEST carries a code that names no request (R175), a CHANGE holds 1 to 8 entries (R126),
a PROBE 1 to 4 targets (R127), and RST is low for some time (R160). -/
def Instr.wellFormed : Instr → Bool
  | .unknownRequest code => !requestCodes.contains code
  | .receiveChange _ _ entries => 1 ≤ entries.length && entries.length ≤ 8
  | .receiveProbe _ _ targets => 1 ≤ targets.length && targets.length ≤ 4
  | .rstLow micros => 0 < micros
  | .powerOn | .rstHigh | .startupComplete | .csFalling | .csRising
  | .setStation .. | .setProfile .. | .setChannel .. | .setGroup .. | .stageBegin _ | .stagePoint ..
  | .stageAdd .. | .commitPoint | .dropPoint _ | .start | .validationEnd _ | .readStatus | .readPoint _ | .readPointRecord ..
  | .readSource _ | .readPeer _ | .readChannel _ | .readFirstOut _ | .readEvents | .setEventMask _ | .ackFirstOut _
  | .clearPoints .. | .restart | .clrFalling | .clrRising | .clrQualified | .listenPeriodExpiry | .settlePeriodExpiry
  | .beatTimerExpiry | .confirmTimerExpiry _ | .releaseTimerExpiry _ | .silenceTimerExpiry _ | .healTimerExpiry _
  | .scanStart | .conversionComplete _ | .slotStart | .frameComplete | .abort | .receiveJoin .. | .receiveBeat ..
  | .receiveClear .. | .receiveUnknownKind _ | .duplicateAddress | .brokenFrame _ | .characterGapTimeout | .lineActivity =>
    true

end Sys2Proof
end

