-- ==== Sys2Proof/Certificates/Slice0/Obligations.lean ====
section
/-! DEFINITION. Certificates/Slice0/Obligations.lean: the statements for the provers, one definition each. -/

section
open Sys2Proof Sys2Proof.Machine

/-! ### The queue of commands -/

/-- A step takes the command at the front of the queue and is its meaning on the state with the queue's rest. -/
def Obligations.StepRunsFrontCommand : Prop :=
  ∀ (c : Instr) (rest : List Instr) (s : State), s.pending = c :: rest → step s = exec c (s.setPending rest)

/-- Every command completes in every state, and leaves the commands that wait as they are. The spec gives every request an answer
and every event its effect where it occurs; that a command for an event which cannot occur in the state it finds completes too,
leaving the state as it is, is the model's reading, no rule of the spec (log 4). -/
def Obligations.CommandsCompleteAndLeaveTheQueue : Prop :=
  ∀ (c : Instr) (s : State), ∃ t, exec c s = .next t ∧ t.pending = s.pending

/-- With no command waiting, a step takes the expiry of a running timer that has no ms left, one of them where several have none;
where none is due, 1 ms passes. The spec's table has no tick: this is the model's choice (log 1, and log 7 for the order). -/
def Obligations.IdleStepTakesADueExpiryOrOneMs : Prop :=
  ∀ s : State, s.pending = [] →
    ((∀ i, ¬isDue s i) → step s = .next (elapse 1 s)) ∧
    ((∃ i, isDue s i) → ∃ i, isDue s i ∧ step s = exec i (s.setChoices (s.choices + 1)))

/-! ### Power and reset (R160, R187) -/

/-- POWER_ON and RST low for 10 µs put every item at its power-on value from any state; a shorter pulse either does the same,
or changes nothing (R160). Three points are the model's choice: RST_LOW of 10 µs or more leaves RST low until RST_HIGH (log 23);
one shorter is the whole pulse, over when the command ends, so that the pins are as they were and a pulse that is taken leaves the
start-up running (log 8); power applied with RST high begins the start-up at once (log 28). -/
def Obligations.PowerOnAndRstLowClearEverything : Prop :=
  powerOnValues State.reset ∧
  ∀ (s : State) (m : Nat),
    (∃ t, exec .powerOn s = .next t ∧ powerOnValues t ∧ t.pins = s.pins ∧
      t.ctrl.startup = if s.pins.rstLow then none else some 2) ∧
    (10 ≤ m → ∃ t, exec (.rstLow m) s = .next t ∧ powerOnValues t ∧ t.pins = { s.pins with rstLow := true } ∧
      t.ctrl.startup = none) ∧
    (m < 10 → s.pins.rstLow = false → ∃ t, exec (.rstLow m) s = .next t ∧ t.pins = s.pins ∧
      (t = s.setChoices (s.choices + 1) ∨ powerOnValues t ∧ t.ctrl.startup = some 2))

/-- From RESET, RST high begins the 2 ms start-up, and its end enters SETUP with every item at its power-on value and the port
in WAITING or CLOSED by the level of CS (R160, R174, R187). -/
def Obligations.StartUpLeadsToSetup : Prop :=
  ∀ s : State, powerOnValues s →
    (s.ctrl.startup = none → exec .rstHigh s =
      .next ((s.setPins { s.pins with rstLow := false }).setCtrl { s.ctrl with startup := some 2 })) ∧
    (∀ r, s.ctrl.startup = some r → exec .startupComplete s =
      .next ((s.setCtrl { s.ctrl with station := .setup, startup := none }).setPort
        { s.port with transaction := if s.pins.csLow then .waiting else .closed }))

/-- `n` ms pass: the tick counts in LISTEN, JOIN, RUN and FAULTED, point timers run in JOIN and RUN, peer timers in LISTEN, JOIN
and RUN; a running timer stops at 0 and waits there (R49, R62, R120, R159; the passing itself is the model's, log 1 to 3). -/
def Obligations.TimersRunInTheirStates : Prop :=
  ∀ (n : Nat) (s : State),
    (elapse n s).ctrl = { s.ctrl with
      tick := if s.ctrl.station.clocked then s.ctrl.tick + BitVec.ofNat 32 n else s.ctrl.tick
      startup := s.ctrl.startup.map (· - n)
      listen := s.ctrl.listen.map (· - n)
      settle := s.ctrl.settle.map (· - n)
      beatTimer := s.ctrl.beatTimer.map (· - n) } ∧
    (elapse n s).chan = { s.chan with scanTimer := s.chan.scanTimer.map (· - n) } ∧
    (elapse n s).trip = { s.trip with press := s.trip.press.map (· - n) } ∧
    (∀ p : PointNo, (elapse n s).contexts[p] =
      if s.ctrl.station.voting then s.contexts[p].map fun c =>
        { c with timer := c.timer.map fun t => { t with remaining := t.remaining - n } }
      else s.contexts[p]) ∧
    (s.ctrl.station.online = false → (elapse n s).peers = s.peers) ∧
    (s.peers = none → (elapse n s).peers = none) ∧
    (∀ v ∈ s.peers, s.ctrl.station.online = true → ∃ v', (elapse n s).peers = some v' ∧ ∀ a : Address,
      v'[a] = { v[a] with silence := v[a].silence.map (· - n), heal := v[a].heal.map (· - n) }) ∧
    (elapse n s).line = s.line ∧ (elapse n s).sources = s.sources ∧ (elapse n s).port = s.port ∧
    (elapse n s).pins = s.pins ∧ (elapse n s).pending = s.pending ∧ (elapse n s).choices = s.choices

/-! ### The setup port (R174 to R177) -/

/-- CS opens and closes transactions; SDO drives 0x00 in COLLECTING, then the answer and 0x00, each byte most significant bit
first, and is high-impedance otherwise; an unknown request is answered BUSY in VALIDATING and BAD_OPERAND elsewhere, with no
effect (R174, R175, R176). -/
def Obligations.PortTransactions : Prop :=
  ∀ s : State,
    (s.ctrl.station ≠ .reset → s.port.transaction = .closed → exec .csFalling s =
      .next ((s.setPins { s.pins with csLow := true }).setPort { s.port with transaction := .collecting, answer := [] })) ∧
    (s.ctrl.station = .reset ∨ s.port.transaction ≠ .closed → exec .csFalling s =
      .next (s.setPins { s.pins with csLow := true })) ∧
    (s.ctrl.station ≠ .reset → exec .csRising s =
      .next ((s.setPins { s.pins with csLow := false }).setPort { s.port with transaction := .closed, answer := [] })) ∧
    (s.ctrl.station = .reset → exec .csRising s = .next (s.setPins { s.pins with csLow := false })) ∧
    (∀ code, s.serves → exec (.unknownRequest code) s =
      .next (giveAnswer [if s.ctrl.station = .validating then 3 else 2] s)) ∧
    (∀ k, s.sdoByte k =
      if s.ctrl.station = .reset then none
      else match s.port.transaction with
        | .waiting | .closed => none
        | .collecting => some 0
        | .answering => some (s.port.answer[k]?.getD 0)) ∧
    (∀ (k : Nat) (j : Fin 8), s.sdoBit (8 * k + j.val) = (s.sdoByte k).map fun b => b.getLsbD (7 - j.val)) ∧
    ∀ bytes, giveAnswer bytes s = s.setPort { s.port with transaction := .answering, answer := bytes }

/-- A request is not taken in RESET or with no transaction collecting. Every one that reaches the port is answered, and one
answered with anything but OK has no effect on any block: in VALIDATING every request but READ_STATUS and RESTART is answered
BUSY, and in a state that does not take it WRONG_STATE (R160, R174, R175, R177). -/
def Obligations.RequestsAreAnsweredOrTurnedAway : Prop :=
  ∀ (i : Instr) (s : State), (encodeRequest i).isSome = true →
    (¬s.serves → exec i s = .next s) ∧
    (s.serves → takenIn i s.ctrl.station = false →
      exec i s = .next (giveAnswer [if s.ctrl.station = .validating then 3 else 1] s)) ∧
    (s.serves → ∃ t status results, exec i s = .next t ∧ t.port.transaction = .answering ∧ t.port.answer = status :: results ∧
      (status ≠ 0 → t = giveAnswer (status :: results) s))

/-- SET_STATION in SETUP loads the four settings together, or is answered BAD_OPERAND and loads none (R180). -/
def Obligations.SetStationLoadsTheSettings : Prop :=
  ∀ s : State, s.serves → s.ctrl.station = .setup → ∀ beat scan : Byte,
    (∀ (a : Address) (r : LineRate), 2 ≤ beat.toNat → 1 ≤ scan.toNat →
      exec (.setStation (natByte a.val) r.code beat scan) s =
        .next (giveAnswer [0] (s.setCtrl { s.ctrl with
          settings := { address := a, rate := r, beat := beat.toNat, scan := scan.toNat } }))) ∧
    ∀ address rate : Byte, 15 < address.toNat ∨ 3 < rate.toNat ∨ beat.toNat < 2 ∨ scan.toNat = 0 →
      exec (.setStation address rate beat scan) s = .next (giveAnswer [2] s)

/-- SET_CHANNEL and SET_PROFILE load their settings together and nothing else, or are answered BAD_OPERAND; BUSY in VALIDATING
and WRONG_STATE outside SETUP; the channel settings after power-on and RST, and after RESTART (R85, R86). -/
def Obligations.ClassifierSettingsAreLoaded : Prop :=
  (∀ s : State, s.serves →
    (∀ (c : Channel) (e : Bool) (p : ProfileNo), s.ctrl.station = .setup →
      exec (.setChannel (natByte c.val) (boolByte e) (natByte p.val)) s =
        .next (giveAnswer [0] (s.setChan { s.chan with
          channels := setAt s.chan.channels c { s.chan.channels[c] with enabled := e, profile := p } }))) ∧
    (∀ c e p : Byte, s.ctrl.station = .setup → 7 < c.toNat ∨ 1 < e.toNat ∨ 7 < p.toNat →
      exec (.setChannel c e p) s = .next (giveAnswer [2] s)) ∧
    (∀ c e p : Byte, s.ctrl.station ≠ .setup →
      exec (.setChannel c e p) s = .next (giveAnswer [if s.ctrl.station = .validating then 3 else 1] s)) ∧
    (∀ (p : ProfileNo) (fl l h fh : Half) (hy n : Byte) (se : Sense), s.ctrl.station = .setup →
      fl.toNat ≤ 4095 → l.toNat ≤ 4095 → h.toNat ≤ 4095 → fh.toNat ≤ 4095 → 1 ≤ n.toNat → n.toNat ≤ 15 →
      exec (.setProfile (natByte p.val) fl l h fh hy n (if se = .inside then 1 else 0)) s =
        .next (giveAnswer [0] (s.setChan { s.chan with
          profiles := setAt s.chan.profiles p
            { faultLow := fl.toNat, low := l.toNat, high := h.toNat, faultHigh := fh.toNat, hysteresis := hy.toNat,
              persistence := n.toNat, sense := se } }))) ∧
    (∀ (p : Byte) (fl l h fh : Half) (hy n se : Byte), s.ctrl.station = .setup →
      7 < p.toNat ∨ 4095 < fl.toNat ∨ 4095 < l.toNat ∨ 4095 < h.toNat ∨ 4095 < fh.toNat ∨ n.toNat = 0 ∨ 15 < n.toNat ∨
        1 < se.toNat →
      exec (.setProfile p fl l h fh hy n se) s = .next (giveAnswer [2] s)) ∧
    ∀ (p : Byte) (fl l h fh : Half) (hy n se : Byte), s.ctrl.station ≠ .setup →
      exec (.setProfile p fl l h fh hy n se) s =
        .next (giveAnswer [if s.ctrl.station = .validating then 3 else 1] s)) ∧
  (∀ s t : State, (exec .powerOn s = .next t ∨ ∃ m, 10 ≤ m ∧ exec (.rstLow m) s = .next t) → ∀ c : Channel,
    t.chan.channels[c].enabled = false ∧ t.chan.channels[c].profile = 0) ∧
  ∀ s t : State, exec .restart s = .next t → ∀ c : Channel,
    t.chan.channels[c].enabled = s.chan.channels[c].enabled ∧ t.chan.channels[c].profile = s.chan.channels[c].profile

/-- SET_GROUP loads both settings of its group together, or is answered BAD_OPERAND, BUSY or WRONG_STATE and loads none
(R66). -/
def Obligations.SetGroupLoadsBothSettings : Prop :=
  ∀ s : State, s.serves →
    (∀ (g : GroupNo) (f : FailAction) (u : StartState), s.ctrl.station = .setup →
      exec (.setGroup (natByte g.val) (if f = .hold then 1 else 0) (if u = .asserted then 1 else 0)) s =
        .next (giveAnswer [0] (s.setTrip { s.trip with
          groups := setAt s.trip.groups g { s.trip.groups[g] with failAction := f, startState := u } }))) ∧
    (∀ g f u : Byte, s.ctrl.station = .setup → 3 < g.toNat ∨ 1 < f.toNat ∨ 1 < u.toNat →
      exec (.setGroup g f u) s = .next (giveAnswer [2] s)) ∧
    (∀ g f u : Byte, s.ctrl.station = .validating → exec (.setGroup g f u) s = .next (giveAnswer [3] s)) ∧
    ∀ g f u : Byte, s.ctrl.station ≠ .setup → s.ctrl.station ≠ .validating →
      exec (.setGroup g f u) s = .next (giveAnswer [1] s)

/-! ### The point table (R10 to R15) -/

/-- STAGE_BEGIN, STAGE_POINT and STAGE_ADD in SETUP: their checks in order, their answers and their effect on the staging
record, and on nothing else (R10, R11, R12). -/
def Obligations.StagingRequestsBuildTheRecord : Prop :=
  ∀ s : State, s.serves → s.ctrl.station = .setup →
    (∀ p : PointNo, exec (.stageBegin (natByte p.val)) s =
      .next (giveAnswer [0, if s.ctrl.points[p].isSome then 1 else 0] (s.setPort { s.port with
        staging := some {
            point := p
            draft := { quorum := 0, mask := 0, policy := .failtrip, latched := false, contributors := [], group := 0,
                       confirm := 0, release := 0 } } }))) ∧
    (∀ b : Byte, 23 < b.toNat → exec (.stageBegin b) s = .next (giveAnswer [2] s)) ∧
    (∀ (q m po la g : Byte) (c r : Half), 2 < po.toNat ∨ 3 < g.toNat ∨ 1 < la.toNat ∨ 7 < m.toNat →
      exec (.stagePoint q m po la g c r) s = .next (giveAnswer [2] s)) ∧
    (∀ (q : Byte) (m : BitVec 3) (po : Policy) (la : Bool) (g : GroupNo) (c r : Half),
      exec (.stagePoint q (m.setWidth 8) po.code (boolByte la) (natByte g.val) c r) s =
        .next (match s.port.staging with
          | none => giveAnswer [6, 1] s
          | some d => giveAnswer [0] (s.setPort { s.port with
              staging := some {
                point := d.point
                draft := { quorum := q.toNat, mask := m, policy := po, latched := la, contributors := d.draft.contributors,
                           group := g, confirm := c.toNat, release := r.toNat } } }))) ∧
    (∀ a c : Byte, 15 < a.toNat ∨ 7 < c.toNat → exec (.stageAdd a c) s = .next (giveAnswer [2] s)) ∧
    ∀ k : SourceKey, exec (.stageAdd (natByte k.station.val) (natByte k.channel.val)) s =
      .next (match s.port.staging with
        | none => giveAnswer [6, 1] s
        | some d =>
          if k ∈ d.draft.contributors then giveAnswer [5] s
          else if 8 ≤ d.draft.contributors.length then giveAnswer [4] s
          else giveAnswer [0, natByte (d.draft.contributors.length + 1)] (s.setPort { s.port with
            staging := some { d with draft := { d.draft with contributors := d.draft.contributors ++ [k] } } }))

/-- COMMIT_POINT: the checks in their order; a commit places the staged record with its list sorted, counts the table afresh and
empties the staging record. DROP_POINT: the record removed, the table counted afresh, the staging record left alone (R13, R14,
R15). -/
def Obligations.CommitAndDropChangeTheTable : Prop :=
  ∀ s : State, s.serves → s.ctrl.station = .setup →
    (s.port.staging = none → exec .commitPoint s = .next (giveAnswer [6, 1] s)) ∧
    (∀ d ∈ s.port.staging,
      (d.draft.contributors = [] → exec .commitPoint s = .next (giveAnswer [6, 2] s)) ∧
      (d.draft.contributors ≠ [] →
        (d.draft.quorum = 0 ∨ d.draft.contributors.length < d.draft.quorum →
          exec .commitPoint s = .next (giveAnswer [6, 3] s)) ∧
        (1 ≤ d.draft.quorum ∧ d.draft.quorum ≤ d.draft.contributors.length →
          (d.draft.mask = 0 → exec .commitPoint s = .next (giveAnswer [6, 4] s)) ∧
          (d.draft.mask ≠ 0 →
            (2550 < d.draft.confirm ∨ d.draft.confirm % 10 ≠ 0 ∨ 2550 < d.draft.release ∨ d.draft.release % 10 ≠ 0 →
              exec .commitPoint s = .next (giveAnswer [6, 5] s)) ∧
            (d.draft.confirm ≤ 2550 ∧ d.draft.confirm % 10 = 0 ∧ d.draft.release ≤ 2550 ∧ d.draft.release % 10 = 0 →
              ((96 : Int) < (s.ctrl.counts.pool : Int) - heldLength s.ctrl.points d.point + d.draft.contributors.length →
                exec .commitPoint s = .next (giveAnswer [6, 6] s)) ∧
              ((s.ctrl.counts.pool : Int) - heldLength s.ctrl.points d.point + d.draft.contributors.length ≤ 96 →
                ∃ l table, l.Perm d.draft.contributors ∧ (l.Pairwise fun a b => a.value ≤ b.value) ∧
                  table = setAt s.ctrl.points d.point (some { d.draft with contributors := l }) ∧
                  exec .commitPoint s = .next (giveAnswer
                    [0, natByte (countedOf table).points, natByte (countedOf table).pool, natByte (countedOf table).sources]
                    ((s.setCtrl { s.ctrl with points := table, counts := countedOf table }).setPort
                      { s.port with staging := none })))))))) ∧
    (∀ b : Byte, 23 < b.toNat → exec (.dropPoint b) s = .next (giveAnswer [2] s)) ∧
    ∀ p : PointNo,
      (s.ctrl.points[p] = none → exec (.dropPoint (natByte p.val)) s = .next (giveAnswer [6, 7] s)) ∧
      (s.ctrl.points[p].isSome = true → ∃ table, table = setAt s.ctrl.points p none ∧
        exec (.dropPoint (natByte p.val)) s = .next (giveAnswer
          [0, natByte (countedOf table).points, natByte (countedOf table).pool, natByte (countedOf table).sources]
          (s.setCtrl { s.ctrl with points := table, counts := countedOf table })))

/-! ### START, the build and RESTART (R162 to R164, R172) -/

/-- START: OK in SETUP, into VALIDATING with the rejection record cleared; BUSY in VALIDATING; WRONG_STATE elsewhere (R162). -/
def Obligations.StartEntersValidating : Prop :=
  ∀ s : State, s.serves →
    (s.ctrl.station = .setup → exec .start s =
      .next (giveAnswer [0] (s.setCtrl { s.ctrl with station := .validating, rejection := { reason := .none, item := none } }))) ∧
    (s.ctrl.station = .validating → exec .start s = .next (giveAnswer [3] s)) ∧
    (s.ctrl.station ≠ .setup → s.ctrl.station ≠ .validating → exec .start s = .next (giveAnswer [1] s))

/-- The four checks of START in their order: the first that fails returns the station to SETUP with its reason and item, and
nothing is built (R87, R163). -/
def Obligations.FailedChecksRejectTheStart : Prop :=
  ∀ (s : State) (b : Bool), s.ctrl.station = .validating →
    ((∀ p : PointNo, s.ctrl.points[p] = none) →
      ∃ t, exec (.validationEnd b) s = .next t ∧ startRejected { reason := .noPoints, item := none } s t) ∧
    ((∃ p : PointNo, s.ctrl.points[p].isSome = true) →
      (∀ c : Channel, firstWith (ownDisabled s) c →
        ∃ t, exec (.validationEnd b) s = .next t ∧ startRejected { reason := .channelDisabled, item := some c.val } s t) ∧
      ((∀ c : Channel, ¬ownDisabled s c) →
        (∀ c : Channel, firstWith (badProfile s) c → ∃ t, exec (.validationEnd b) s = .next t ∧
          startRejected { reason := .profileInvalid, item := some s.chan.channels[c].profile.val } s t) ∧
        ((∀ c : Channel, ¬badProfile s c) →
          ∀ p : PointNo, firstWith (exceedsAt s) p → ∃ t, exec (.validationEnd b) s = .next t ∧
            startRejected { reason := .sourceLimit, item := some p.val } s t)))

/-- A START that passes enters LISTEN: tick 0, the listen period, the digest, START_DONE; channels set afresh and the first scan
begun; L NONE, sequence 0, the receiver waiting; each pin at its start state (R100, R128, R136, R145, R147, R164, R166). -/
def Obligations.PassedChecksEnterListen : Prop :=
  ∀ (s : State) (b : Bool), s.ctrl.station = .validating → startPasses s →
    ∃ t, exec (.validationEnd b) s = .next t ∧
      t.ctrl = { s.ctrl with
        station := .listen
        digest := some (crc16 (digestStream s.ctrl.settings.beat s.ctrl.points))
        tick := 0
        listen := some (2 * (10 * s.ctrl.settings.beat) + 4 * s.ctrl.settings.address.val) } ∧
      (∀ c : Channel, t.chan.channels[c] =
        freshChannel t.chan.channels[c].contributing s.chan.channels[c].lastCode s.chan.channels[c] ∧
        (t.chan.channels[c].contributing = true ↔
          named s.ctrl.points { station := s.ctrl.settings.address, channel := c })) ∧
      t.chan.profiles = s.chan.profiles ∧
      t.chan.scan = (List.finRange 8).filter (fun c => s.chan.channels[c].enabled) ∧
      t.chan.scanTimer = some s.ctrl.settings.scan ∧
      t.line = { s.line with lastSender := none, sequence := 0, slots := .stopped, receiver := .entered b } ∧
      (∀ g : GroupNo, t.trip.groups[g] =
        { s.trip.groups[g] with asserting := [], output := s.trip.groups[g].startState.output }) ∧
      t.trip.firstOut = s.trip.firstOut ∧ t.trip.press = s.trip.press ∧
      t.port = { s.port with flags := s.port.flags ||| 0x40 } ∧ t.pins = s.pins ∧ t.choices = s.choices

/-- The build: the verdict table holds one entry for each pair named, ascending, with its references and initial verdict; every
context is CLEAR with every standing UNAVAILABLE; every peer is UNHEARD and the own address SELF (R19, R20, R22 to R24, R39,
R104). -/
def Obligations.StartBuildsTheTables : Prop :=
  ∀ (s : State) (b : Bool), s.ctrl.station = .validating → startPasses s → TableInv s →
    ∃ t, exec (.validationEnd b) s = .next t ∧
      (t.sources.Pairwise fun e f => e.key.value < f.key.value) ∧
      (∀ k : SourceKey, (∃ e ∈ t.sources, e.key = k) ↔ named s.ctrl.points k) ∧
      (∀ e ∈ t.sources, e.updatedAt = 0 ∧
        (e.key.station = s.ctrl.settings.address → e.origin = .own ∧ e.verdict = .line .unsettled) ∧
        (e.key.station ≠ s.ctrl.settings.address → e.origin = .line ∧ e.verdict = .unknown) ∧
        (e.refs.Pairwise fun x y => x.point < y.point) ∧
        ∀ (p : PointNo) (i : Fin 8), ({ point := p, position := i } : Reference) ∈ e.refs ↔
          ∃ r ∈ s.ctrl.points[p], r.contributors[i.val]? = some e.key) ∧
      (∀ p : PointNo, t.contexts[p] = s.ctrl.points[p].map fun r =>
        { state := .clear, standings := List.replicate r.contributors.length .unavailable, excursions := 0, normals := 0,
          unavailables := r.contributors.length,
          count := if r.policy = .failtrip then r.contributors.length else 0,
          effectiveQuorum := if r.policy = .degrade then max 1 (r.quorum - r.contributors.length) else r.quorum,
          timer := none }) ∧
      ∃ v, t.peers = some v ∧ ∀ a : Address, v[a] =
        { state := if a = s.ctrl.settings.address then .self else .unheard, digest := none, channels := none, expected := none,
          lastHeard := none, silence := none, heal := none }

/-- RESTART, taken in every served state: SETUP with the configuration kept, the runtime state cleared, the flags and the staging
record cleared, the mask kept, and a press on CLR going on (R17, R25, R65, R100, R172, R187). -/
def Obligations.RestartKeepsConfigurationAlone : Prop :=
  ∀ s : State, s.serves → ∃ t, exec .restart s = .next t ∧
    t.ctrl = { station := .setup, startup := none, cause := .none, rejection := { reason := .none, item := none }, digest := none,
               tick := 0, listen := none, settle := none, beatTimer := none, settings := s.ctrl.settings,
               points := s.ctrl.points, counts := countedOf s.ctrl.points } ∧
    (∀ c : Channel, t.chan.channels[c] = freshChannel false 0 s.chan.channels[c]) ∧
    t.chan.profiles = s.chan.profiles ∧ t.chan.scan = [] ∧ t.chan.scanTimer = none ∧
    t.line = { queue := [], inFlight := none, lastSender := none, slots := .notKept, receiver := .idle, sequence := 0,
               aborts := 0 } ∧
    t.peers = none ∧ t.sources = [] ∧ (∀ p : PointNo, t.contexts[p] = none) ∧
    (∀ g : GroupNo, t.trip.groups[g] = { s.trip.groups[g] with asserting := [], output := .highImpedance } ∧
      t.trip.firstOut[g] = none) ∧
    t.trip.press = s.trip.press ∧
    t.port = { transaction := .answering, answer := [0], staging := none, cursor := { group := 0, position := none }, flags := 0,
               mask := s.port.mask } ∧
    t.pins = s.pins ∧ t.intLow = false

/-! ### Reads (R37, R64, R101, R122, R179, R181, R182) -/

/-- READ_POINT and READ_POINT_RECORD: BUSY in VALIDATING; in every other served state the vote and the record of a point, absent
points as absent, BAD_OPERAND for what does not exist, and nothing changed (R64, R182). -/
def Obligations.PointReadsReturnVoteAndRecord : Prop :=
  ∀ s : State, s.serves →
    (s.ctrl.station = .validating → ∀ b k : Byte, exec (.readPoint b) s = .next (giveAnswer [3] s) ∧
      exec (.readPointRecord b k) s = .next (giveAnswer [3] s)) ∧
    (s.ctrl.station ≠ .validating →
    (∀ b : Byte, 23 < b.toNat → exec (.readPoint b) s = .next (giveAnswer [2] s) ∧
      ∀ k, exec (.readPointRecord b k) s = .next (giveAnswer [2] s)) ∧
    ∀ p : PointNo,
      (s.ctrl.points[p] = none →
        exec (.readPoint (natByte p.val)) s = .next (giveAnswer (0 :: List.replicate 9 0) s) ∧
        exec (.readPointRecord (natByte p.val) 0) s = .next (giveAnswer (0 :: List.replicate 11 0) s) ∧
        ∀ k : Byte, k ≠ 0 → exec (.readPointRecord (natByte p.val) k) s = .next (giveAnswer [2] s)) ∧
      (∀ r ∈ s.ctrl.points[p],
        (s.contexts[p] = none →
          exec (.readPoint (natByte p.val)) s = .next (giveAnswer (0 :: 1 :: List.replicate 8 0) s)) ∧
        (∀ c ∈ s.contexts[p], exec (.readPoint (natByte p.val)) s = .next (giveAnswer
          ([0, 1, c.state.code, natByte c.excursions, natByte c.normals, natByte c.unavailables, natByte c.count,
            natByte c.effectiveQuorum] ++ natHalfBytes ((c.timer.map (·.remaining)).getD 0)) s)) ∧
        exec (.readPointRecord (natByte p.val) 0) s = .next (giveAnswer
          ([0, 1, natByte r.quorum, r.mask.setWidth 8, r.policy.code, boolByte r.latched, natByte r.contributors.length,
            natByte r.group.val] ++ natHalfBytes r.confirm ++ natHalfBytes r.release) s) ∧
        ∀ k : Byte, k ≠ 0 → exec (.readPointRecord (natByte p.val) k) s = .next (
          if 8 < k.toNat then giveAnswer [2] s
          else match r.contributors[k.toNat - 1]? with
            | some q => giveAnswer [0, natByte q.station.val, natByte q.channel.val] s
            | none => giveAnswer [2] s)))

/-- READ_STATUS, taken in VALIDATING as well: the 20 bytes of the status record. READ_SOURCE, READ_PEER and READ_CHANNEL in
every served state but VALIDATING: the entry in the layout of section 11.4, or BAD_OPERAND. None of them changes anything (R37,
R101, R122, R181). -/
def Obligations.StatusAndTableReadsReturnTheirRecords : Prop :=
  (∀ s : State, s.serves → exec .readStatus s = .next (giveAnswer
    (0 :: [s.ctrl.station.code, s.ctrl.cause.code, s.ctrl.rejection.reason.code, natByte (s.ctrl.rejection.item.getD 0),
      natByte s.ctrl.settings.address.val, s.ctrl.settings.rate.code, natByte s.ctrl.settings.beat,
      natByte s.ctrl.settings.scan,
      (s.ctrl.digest.getD 0).extractLsb' 8 8, (s.ctrl.digest.getD 0).extractLsb' 0 8,
      (match s.line.lastSender with
        | some a => natByte a.val
        | none => 0xFF),
      s.line.sequence, natByte s.line.aborts, natByte s.ctrl.counts.points, natByte s.ctrl.counts.pool,
      natByte s.ctrl.counts.sources,
      s.ctrl.tick.extractLsb' 24 8, s.ctrl.tick.extractLsb' 16 8, s.ctrl.tick.extractLsb' 8 8, s.ctrl.tick.extractLsb' 0 8]) s)) ∧
  ∀ s : State, s.serves → s.ctrl.station ≠ .validating →
    (∀ b : Byte, exec (.readSource b) s = .next (match s.sources[b.toNat]? with
      | some e => giveAnswer (0 :: [natByte e.key.station.val, natByte e.key.channel.val, e.verdict.code]
          ++ tickBytes e.updatedAt) s
      | none => giveAnswer [2] s)) ∧
    (∀ b : Byte, 15 < b.toNat → exec (.readPeer b) s = .next (giveAnswer [2] s)) ∧
    (∀ (a : Address) (e : PeerEntry),
      (match s.peers with
        | some v => e = v[a]
        | none => e = { state := if a = s.ctrl.settings.address then .self else .unheard, digest := none, channels := none,
                        expected := none, lastHeard := none, silence := none, heal := none }) →
      exec (.readPeer (natByte a.val)) s = .next (giveAnswer
        ([0, e.state.code,
          natByte ((if e.digest.isSome then 1 else 0) + (if e.channels.isSome then 2 else 0)
            + (if e.expected.isSome then 4 else 0) + if e.lastHeard.isSome then 8 else 0)]
          ++ halfBytes (e.digest.getD 0) ++ [e.channels.getD 0, e.expected.getD 0] ++ tickBytes (e.lastHeard.getD 0)
          ++ natHalfBytes (e.silence.getD 0) ++ natHalfBytes (e.heal.getD 0)) s)) ∧
    (∀ b : Byte, 7 < b.toNat → exec (.readChannel b) s = .next (giveAnswer [2] s)) ∧
    ∀ c : Channel, exec (.readChannel (natByte c.val)) s = .next (giveAnswer
      ([0, boolByte s.chan.channels[c].enabled, natByte s.chan.channels[c].profile.val,
        boolByte s.chan.channels[c].contributing] ++ natHalfBytes s.chan.channels[c].lastCode
        ++ [s.chan.channels[c].verdict.code,
          (match s.chan.channels[c].candidate with
            | some k => k.verdict.code
            | none => 0x0F), natByte s.chan.channels[c].count]) s)

/-- READ_FIRST_OUT returns the item at the cursor and advances it through header and entries; ACK_FIRST_OUT empties the record
of its group and rewinds the cursor if it stands there; neither touches anything else (R80, R81, R82). That a cursor at an entry
of an EMPTY record, which no run leaves there, reads the header as one at the header does, is the model's choice (log 29). -/
def Obligations.FirstOutIsReadAndAcknowledged : Prop :=
  ∀ s : State, s.serves → s.ctrl.station ≠ .validating →
    (∀ b : Byte, 3 < b.toNat → exec (.readFirstOut b) s = .next (giveAnswer [2] s) ∧
      exec (.ackFirstOut b) s = .next (giveAnswer [2] s)) ∧
    ∀ g : GroupNo,
      (s.trip.firstOut[g] = none → exec (.readFirstOut (natByte g.val)) s = .next (giveAnswer
        (0 :: [0, natByte g.val, 0, s.trip.groups[g].output.code, natByte s.trip.groups[g].asserting.length,
          0, 0, 0, 0, 0, 0, 0, 0]) (s.setPort { s.port with cursor := { group := g, position := none } }))) ∧
      (∀ f ∈ s.trip.firstOut[g],
        (s.port.cursor.group ≠ g ∨ s.port.cursor.position = none → exec (.readFirstOut (natByte g.val)) s = .next (giveAnswer
          (0 :: [0, natByte g.val, 1, s.trip.groups[g].output.code, natByte s.trip.groups[g].asserting.length,
            natByte f.point.val] ++ tickBytes f.tick ++ [natByte f.subsequent, natByte f.snapshot.length, f.cause.code])
          (s.setPort { s.port with cursor := { group := g, position := some 0 } }))) ∧
        ∀ (k : Nat) (e : SnapshotEntry), s.port.cursor = { group := g, position := some k } → f.snapshot[k]? = some e →
          exec (.readFirstOut (natByte g.val)) s = .next (giveAnswer
            (0 :: [1, natByte k, natByte e.source.station.val, natByte e.source.channel.val, e.standing.code])
            (s.setPort { s.port with
              cursor := { group := g, position := if k + 1 = f.snapshot.length then none else some (k + 1) } }))) ∧
      exec (.ackFirstOut (natByte g.val)) s = .next (giveAnswer [0]
        ((s.setTrip { s.trip with firstOut := setAt s.trip.firstOut g none }).setPort { s.port with
          cursor := if s.port.cursor.group = g then { group := g, position := none } else s.port.cursor }))

/-- READ_EVENTS returns the flags and clears them; SET_EVENT_MASK replaces the mask whole and leaves the flags; INT is low exactly
while a set flag lies in the mask; the mask is empty after power-on and RST and kept by RESTART (R184, R185, R186). -/
def Obligations.EventFlagsMaskAndInt : Prop :=
  (∀ s : State, s.serves →
    (s.ctrl.station ≠ .validating →
      exec .readEvents s = .next (giveAnswer [0, s.port.flags.setWidth 8] (s.setPort { s.port with flags := 0 })) ∧
      (∀ m : BitVec 7, exec (.setEventMask (m.setWidth 8)) s = .next (giveAnswer [0] (s.setPort { s.port with mask := m }))) ∧
      ∀ b : Byte, 127 < b.toNat → exec (.setEventMask b) s = .next (giveAnswer [2] s)) ∧
    (s.ctrl.station = .validating → exec .readEvents s = .next (giveAnswer [3] s) ∧
      ∀ b : Byte, exec (.setEventMask b) s = .next (giveAnswer [3] s))) ∧
  (∀ s : State, s.intLow = true ↔ ∃ i : Fin 7, s.port.flags.getLsbD i.val = true ∧ s.port.mask.getLsbD i.val = true) ∧
  (∀ s t : State, (exec .powerOn s = .next t ∨ ∃ m, 10 ≤ m ∧ exec (.rstLow m) s = .next t) → t.port.mask = 0) ∧
  ∀ s t : State, exec .restart s = .next t → t.port.mask = s.port.mask

/-! ### Clears (R72 to R74) -/

/-- CLEAR_POINTS in RUN: the mask is cleared at the own points, and with scope NETWORK a CLEAR item is queued, or the mask joined
to the pending one; an empty mask or an unknown scope is answered BAD_OPERAND (R72, R74, R132). -/
def Obligations.ClearPointsClearsAndQueues : Prop :=
  ∀ (s : State) (m : PointMask), s.serves → s.ctrl.station = .run →
    (∀ scope : Byte, m = 0 ∨ 1 < scope.toNat → exec (.clearPoints m scope) s = .next (giveAnswer [2] s)) ∧
    (m ≠ 0 → ∃ u, clearsTaken m s u ∧
      exec (.clearPoints m 0) s = .next (giveAnswer [0] u) ∧
      exec (.clearPoints m 1) s = .next (giveAnswer [0] (u.setLine { u.line with
        queue := if s.line.queue.any (·.isClear) then s.line.queue.map (·.orMask m) else s.line.queue ++ [.clear m] })))

/-- CLR: a falling edge starts 10 ms of qualification outside RESET, a rising edge abandons it, and a qualified press clears all
24 points in RUN and is discarded in every other state (R72, R73). Two points are the model's choice: CLR_QUALIFIED is taken on
`u`, after the ms its press had left have passed for every timer (log 2), and CLR_FALLING starts a press whatever level was held
(log 34). -/
def Obligations.ClrPressIsQualified : Prop :=
  ∀ s : State,
    exec .clrFalling s = .next ((s.setPins { s.pins with clrLow := true }).setTrip { s.trip with
      press := if s.ctrl.station = .reset then s.trip.press else some 10 }) ∧
    exec .clrRising s = .next ((s.setPins { s.pins with clrLow := false }).setTrip { s.trip with press := none }) ∧
    ∀ (r : Nat) (u : State), s.trip.press = some r →
      u = (elapse r s).setTrip { (elapse r s).trip with press := none } →
      (s.ctrl.station = .run → ∃ t, exec .clrQualified s = .next t ∧ clearsTaken (BitVec.allOnes 24) u t) ∧
      (s.ctrl.station ≠ .run → exec .clrQualified s = .next u)

/-! ### Station life cycle (R148, R166 to R171) -/

/-- The listen period expires: JOIN, L assumed if it is NONE, the JOIN item queued, and every point evaluated once from the
standings the tables derive, with trip events discarded and the pins at their start states (R59, R67, R68, R79, R148, R166, R167).
That the expiry is taken on `u`, after the ms its period had left have passed for every timer, is the model's choice (log 2). -/
def Obligations.ListenPeriodEndsInJoin : Prop :=
  ∀ (s u : State) (r : Nat), s.ctrl.station = .listen → s.ctrl.listen = some r → u = elapse r s → s.line.queue = [] →
    ∃ t, exec .listenPeriodExpiry s = .next t ∧
      t.ctrl = { u.ctrl with station := .join, listen := none } ∧
      t.line = { s.line with
        queue := [.join]
        lastSender := some (s.line.lastSender.getD (s.ctrl.settings.address - 1)) } ∧
      (∀ p : PointNo, s.ctrl.points[p] = none ∨ s.contexts[p] = none → t.contexts[p] = s.contexts[p]) ∧
      (∀ p : PointNo, ∀ q ∈ s.ctrl.points[p], ∀ c ∈ s.contexts[p], c.state = .clear → c.timer = none →
        ∀ d, d = recount q (q.contributors.map fun k =>
          standingOf (stationState s.ctrl.settings.address s.peers k.station) (verdictOfKey s.sources k) q.mask) c →
        t.contexts[p] = some (
          if d.effectiveQuorum ≤ d.count then
            if q.confirm = 0 then { d with state := .tripped }
            else { d with state := .arming, timer := some { kind := .confirm, remaining := q.confirm } }
          else d)) ∧
      ((∀ g : GroupNo, s.trip.groups[g].asserting = []) →
        (∀ p : PointNo, ∀ c ∈ s.contexts[p], c.state = .clear ∧ c.timer = none) →
        ∀ (g : GroupNo) (p : PointNo), p ∈ t.trip.groups[g].asserting ↔
          ∃ q ∈ s.ctrl.points[p], q.group = g ∧ ∃ c ∈ t.contexts[p], c.state = .tripped) ∧
      (∀ g : GroupNo, t.trip.groups[g].output = s.trip.groups[g].output ∧
        t.trip.groups[g].failAction = s.trip.groups[g].failAction ∧ t.trip.groups[g].startState = s.trip.groups[g].startState) ∧
      t.trip.firstOut = s.trip.firstOut ∧ t.trip.press = u.trip.press ∧ t.port = s.port ∧ t.chan = u.chan ∧
      t.peers = u.peers ∧ t.sources = s.sources ∧ t.pins = s.pins

/-- The settle period expires: RUN; each output takes the level its asserting set calls for, the record of each group that asserts
is captured from its lowest point, and TRIP and FIRST_OUT are set if any asserts; the vote, the line and the peers carry on
(R61, R70, R82, R170). That the expiry is taken on `u`, after the ms its period had left have passed for every timer, so that the
capture's tick and the timers left are those of `u`, is the model's choice (log 2). -/
def Obligations.SettlePeriodEndsInRun : Prop :=
  ∀ (s u : State) (r : Nat), s.ctrl.station = .join → s.ctrl.settle = some r → u = elapse r s →
    ∃ t, exec .settlePeriodExpiry s = .next t ∧
      t.ctrl = { u.ctrl with station := .run, settle := none } ∧
      (∀ g : GroupNo, t.trip.groups[g] =
        { s.trip.groups[g] with output := if s.trip.groups[g].asserting = [] then .released else .asserted }) ∧
      (∀ g : GroupNo, s.trip.groups[g].asserting = [] → t.trip.firstOut[g] = s.trip.firstOut[g]) ∧
      (∀ (g : GroupNo) (p : PointNo) (l : List PointNo), s.trip.groups[g].asserting = p :: l →
        ∀ q ∈ s.ctrl.points[p], ∀ c ∈ s.contexts[p], c.standings.length = q.contributors.length →
          t.trip.firstOut[g] = some
            { point := p, tick := u.ctrl.tick, subsequent := l.length, cause := .runEntry
              snapshot := (q.contributors.zip c.standings).map fun e => { source := e.1, standing := e.2 } } ∧
          (s.port.cursor.group = g → t.port.cursor = { group := g, position := none })) ∧
      (s.trip.groups[s.port.cursor.group].asserting = [] → t.port.cursor = s.port.cursor) ∧
      t.port.flags = (if ∃ g : GroupNo, s.trip.groups[g].asserting ≠ [] then s.port.flags ||| 0x03 else s.port.flags) ∧
      t.contexts = u.contexts ∧ t.line = s.line ∧ t.peers = u.peers ∧ t.sources = s.sources ∧ t.chan = u.chan ∧
      t.pins = s.pins ∧ t.trip.press = u.trip.press ∧ t.port.mask = s.port.mask ∧ t.port.staging = s.port.staging ∧
      t.port.transaction = s.port.transaction ∧ t.port.answer = s.port.answer

/-! ### The vote engine (R33, R34, R40, R44 to R49, R54, R55) -/

/-- The standing a verdict gives through a direction mask, for each verdict and each mask (R34); before it, a peer that is
UNHEARD, SILENT or EXCLUDED makes it UNAVAILABLE (R33). -/
def Obligations.VerdictsGiveStandings : Prop :=
  (∀ (m : BitVec 3) (p : PeerState), p = .self ∨ p = .live ∨ p = .gapped →
    standingOf p (.line .low) m = (if m.getLsbD 0 then .excursion else .normal) ∧
    standingOf p (.line .high) m = (if m.getLsbD 1 then .excursion else .normal) ∧
    standingOf p (.line .band) m = (if m.getLsbD 2 then .excursion else .normal) ∧
    standingOf p (.line .normal) m = .normal ∧
    standingOf p (.line .fault) m = .unavailable ∧ standingOf p (.line .off) m = .unavailable ∧
    standingOf p (.line .unsettled) m = .unavailable ∧ standingOf p .unknown m = .unavailable) ∧
  ∀ (m : BitVec 3) (p : PeerState) (v : Verdict), p = .unheard ∨ p = .silent ∨ p = .excluded →
    standingOf p v m = .unavailable

/-- The counts of a context over a standing list, and the count and effective quorum each policy gives; under DEGRADE a point with
no excursion never reaches its quorum, and one with an excursion reaches it as soon as e + u ≥ q (R38, R40). -/
def Obligations.PoliciesGiveCountAndQuorum : Prop :=
  ∀ (r : PointRecord) (l : List Standing) (c d : PointContext), d = recount r l c →
    d.standings = l ∧ d.excursions = l.count .excursion ∧ d.normals = l.count .normal ∧
    d.unavailables = l.count .unavailable ∧ d.excursions + d.normals + d.unavailables = l.length ∧
    d.state = c.state ∧ d.timer = c.timer ∧
    (r.policy = .failtrip → d.count = d.excursions + d.unavailables ∧ d.effectiveQuorum = r.quorum) ∧
    (r.policy = .ignore → d.count = d.excursions ∧ d.effectiveQuorum = r.quorum) ∧
    (r.policy = .degrade → d.count = d.excursions ∧ (d.effectiveQuorum : Int) = max 1 ((r.quorum : Int) - d.unavailables) ∧
      (d.excursions = 0 → d.count < d.effectiveQuorum) ∧
      (1 ≤ d.excursions → (d.effectiveQuorum ≤ d.count ↔ r.quorum ≤ d.excursions + d.unavailables)))

/-- One notice in JOIN or RUN is one evaluation of its point: its changes written, the counts taken over them, and at most one
transition, by the table of section 3.4; every other point is left alone. The trip output unit takes the report, and the trip
event of an entry into TRIPPED from CLEAR, in RUN; a return to TRIPPED from RELEASING or HELD is no trip event (R41, R42, R44 to
R48, R54, R55, R67, R69, R78, R79). -/
def Obligations.NoticesMakeOneTransition : Prop :=
  ∀ (s t : State) (n : Notice) (r : PointRecord) (c d : PointContext), s.ctrl.points[n.point] = some r →
    s.contexts[n.point] = some c → t = takeNotice s n →
    d = movedByCounts r (recount r (n.changes.foldl (fun l x => l.set x.position.val x.after) c.standings) c) →
    t.contexts[n.point] = some d ∧ (∀ q : PointNo, q ≠ n.point → t.contexts[q] = s.contexts[q]) ∧
    tripUnitFollows n.point r c.state d s t ∧
    t.ctrl = s.ctrl ∧ t.chan = s.chan ∧ t.line = s.line ∧ t.peers = s.peers ∧ t.sources = s.sources ∧ t.pins = s.pins ∧
    t.pending = s.pending ∧ t.choices = s.choices

/-- An update of the verdict table writes the last verdict it has for each key, with updated-at where the verdict changes. In JOIN
and RUN it then passes exactly one notice for each point with a standing that changed, naming each such position with the standing
before and after, and none for any other point; elsewhere it passes none (R20, R26, R35, R36, R43). -/
def Obligations.UpdatesPassOneNoticeForEachChangedPoint : Prop :=
  ∀ (s u : State) (ws : List Write) (after : Option PeerTable), TableInv s → VerdictInv s →
    u = (s.setSources (s.sources.map fun e => match (ws.filter fun w => w.key == e.key).getLast? with
      | none => e
      | some w => writtenEntry s.ctrl.tick w.verdict e)).setPeers after →
    (s.ctrl.station.voting = false → applyUpdate ws after s = u) ∧
    (s.ctrl.station.voting = true → ∃ l : List Notice,
      applyUpdate ws after s = l.foldl takeNotice (u.setChoices (s.choices + 1)) ∧
      (l.map fun n => n.point).Nodup ∧
      (∀ p : PointNo, (∃ n ∈ l, n.point = p) ↔ ∃ r ∈ s.ctrl.points[p], derivedStandings s r ≠ derivedStandings u r) ∧
      ∀ n ∈ l, (n.changes.Pairwise fun x y => x.position < y.position) ∧ (∀ x ∈ n.changes, x.point = n.point) ∧
        ∀ r ∈ s.ctrl.points[n.point], ∀ (i : Fin 8) (b a : Standing),
          ({ point := n.point, position := i, before := b, after := a } : Change) ∈ n.changes ↔
            (derivedStandings s r)[i.val]? = some b ∧ (derivedStandings u r)[i.val]? = some a ∧ b ≠ a)

/-- The confirm timer of a point in ARMING trips it, with a trip event; the release timer of a point in RELEASING returns it to
CLEAR. In RUN the group's output follows, TRIP is set when it becomes asserted and stands else, and the trip event captures an
EMPTY first-out record, with FIRST_OUT set and the cursor of the group at the header, or counts in a CAPTURED one; in JOIN
neither output nor record changes, and the rest of the port stands in both (R45, R47, R49, R55, R67, R69, R78, R79, R82). That
the expiry is taken on `u`, after the ms its timer had left have passed for every timer, is the model's choice (log 2). -/
def Obligations.PointTimersTripAndRelease : Prop :=
  ∀ (s u : State) (p : PointNo) (r : PointRecord) (c : PointContext) (n : Nat), s.ctrl.station.voting = true →
    s.ctrl.points[p] = some r → s.contexts[p] = some c → u = elapse n s →
    (c.state = .arming → c.timer = some { kind := .confirm, remaining := n } →
      ∃ t, exec (.confirmTimerExpiry p) s = .next t ∧
        t.contexts[p] = some { c with state := .tripped, timer := none } ∧
        (∀ q : PointNo, q ≠ p → t.contexts[q] = u.contexts[q]) ∧
        tripUnitFollows p r .arming { c with state := .tripped, timer := none } u t ∧
        (s.ctrl.station = .join → t.trip.groups[r.group].output = s.trip.groups[r.group].output ∧
          t.trip.firstOut = s.trip.firstOut ∧ t.port = s.port) ∧
        t.ctrl = u.ctrl ∧ t.chan = u.chan ∧ t.line = s.line ∧ t.peers = u.peers ∧ t.sources = s.sources ∧ t.pins = s.pins ∧
        t.pending = s.pending ∧ t.choices = s.choices) ∧
    (c.state = .releasing → c.timer = some { kind := .release, remaining := n } →
      ∃ t, exec (.releaseTimerExpiry p) s = .next t ∧
        t.contexts[p] = some { c with state := .clear, timer := none } ∧
        (∀ q : PointNo, q ≠ p → t.contexts[q] = u.contexts[q]) ∧
        t.trip.groups[r.group].asserting = s.trip.groups[r.group].asserting.filter (· ≠ p) ∧
        tripUnitFollows p r .releasing { c with state := .clear, timer := none } u t ∧
        t.trip.firstOut = s.trip.firstOut ∧ t.port = s.port ∧ t.ctrl = u.ctrl ∧ t.chan = u.chan ∧ t.line = s.line ∧
        t.peers = u.peers ∧ t.sources = s.sources ∧ t.pins = s.pins ∧ t.pending = s.pending ∧ t.choices = s.choices)

/-! ### Peer timers (R31, R115, R116) -/

/-- A silence or heal timer's expiry: the peer becomes SILENT with its sources UNKNOWN by one update, PEER is set and no other
flag but by the notices, and the votes follow; in UNHEARD and SILENT a silence expiry only stops the timer. In LISTEN no vote
moves (R31, R35, R36, R115, R116, R119). Model's choices: the expiry is taken on `u`, after the ms its timer had left have
passed for every timer (log 2); a silence timer at SELF and a heal timer outside GAPPED, which no run holds, are only stopped
(log 31). -/
def Obligations.PeerTimersSilence : Prop :=
  ∀ (s u : State) (a : Address) (v w : PeerTable) (n : Nat), s.ctrl.station.online = true → s.peers = some v →
    u = elapse n s → u.peers = some w → keysDistinct s →
    (v[a].silence = some n →
      (v[a].state = .live ∨ v[a].state = .gapped ∨ v[a].state = .excluded →
        ∃ t, exec (.silenceTimerExpiry a) s = .next t ∧
          t.peers = some (setAt w a { v[a] with state := .silent, silence := none, heal := none }) ∧
          t.sources = s.sources.map (discardedEntry u.ctrl.tick a) ∧ madeByUpdate u 0x04 t ∧ flagsRaised 0x04 s t ∧
          keepsStation u t ∧ t.line = s.line ∧ votesFollow u t) ∧
      (v[a].state = .unheard ∨ v[a].state = .silent ∨ v[a].state = .self →
        exec (.silenceTimerExpiry a) s = .next (u.setPeers (some (setAt w a { w[a] with silence := none }))))) ∧
    (v[a].heal = some n →
      (v[a].state = .gapped → ∃ t, exec (.healTimerExpiry a) s = .next t ∧
        t.peers = some (setAt w a { w[a] with state := .silent, heal := none }) ∧
        t.sources = s.sources.map (discardedEntry u.ctrl.tick a) ∧ madeByUpdate u 0x04 t ∧ flagsRaised 0x04 s t ∧
        keepsStation u t ∧ t.line = s.line ∧ votesFollow u t) ∧
      (v[a].state ≠ .gapped →
        exec (.healTimerExpiry a) s = .next (u.setPeers (some (setAt w a { w[a] with heal := none })))))

/-! ### The channel classifier (R89 to R97, R191) -/

/-- A voltage, in units of 10^-13 V, gives the whole part of 4096 × V / 2.5 V, 0 at or below 0 V and at most 4095; a code gets its
class test by test, with the limits read as integers (R89, R91, R92, R191). -/
def Obligations.VoltagesAreConvertedAndClassified : Prop :=
  (∀ v : Int, codeOfVoltage v ≤ 4095 ∧ (v ≤ 0 → codeOfVoltage v = 0) ∧
    (25000000000000 ≤ v → codeOfVoltage v = 4095) ∧
    (0 ≤ v → v < 25000000000000 →
      (codeOfVoltage v : Int) * 25000000000000 ≤ 4096 * v ∧ 4096 * v < ((codeOfVoltage v : Int) + 1) * 25000000000000)) ∧
  ∀ (p : Profile) (v : LineVerdict) (code : Nat), classOf p v code =
    if (code : Int) < p.faultLow ∨ (code : Int) > p.faultHigh then .fault
    else if p.sense = .outside ∧ (code : Int) < p.low then .low
    else if p.sense = .outside ∧ v = .low ∧ (code : Int) < p.low + p.hysteresis then .low
    else if p.sense = .outside ∧ (code : Int) > p.high then .high
    else if p.sense = .outside ∧ v = .high ∧ (code : Int) > (p.high : Int) - p.hysteresis then .high
    else if p.sense = .inside ∧ (p.low : Int) ≤ code ∧ (code : Int) ≤ p.high then .band
    else if p.sense = .inside ∧ v = .band ∧ (p.low : Int) - p.hysteresis ≤ code ∧ (code : Int) ≤ p.high + p.hysteresis then .band
    else .normal

/-- SCAN_START begins a scan of the enabled channels in ascending order. A conversion stores the code, classifies it under the
verdict held, and applies the one case of the persistence that fits; a verdict that changes is written to the own entry by one
update and, in JOIN and RUN, to the CHANGE item of a contributing channel, the votes follow, no flag is set but by the notices,
and nothing else is handed on (R27, R35, R89, R90, R93, R96, R97, R132). Model's choices: SCAN_START is taken on `u`, after the
ms its interval had left have passed for every timer (log 2), and it replaces what a scan still under way had left to convert
(log 21). -/
def Obligations.ScansSampleAndPersist : Prop :=
  (∀ (s u : State) (r : Nat), s.ctrl.station.clocked = true → s.chan.scanTimer = some r → u = elapse r s →
    exec .scanStart s = .next (u.setChan { u.chan with
      scan := (List.finRange 8).filter fun c => s.chan.channels[c].enabled
      scanTimer := some s.ctrl.settings.scan })) ∧
  ∀ (s : State) (c : Channel) (rest : List Channel) (volt : Int) (r r' : ChannelRecord) (k : SampleClass) (n : Nat),
    s.ctrl.station.clocked = true → s.chan.scan = c :: rest → r = s.chan.channels[c] →
    k = classOf s.chan.profiles[r.profile] r.verdict (codeOfVoltage volt) →
    n = (if r.candidate = some k then r.count + 1 else 1) →
    r' = (if k.verdict = r.verdict then { r with lastCode := codeOfVoltage volt, candidate := none, count := 0 }
      else if s.chan.profiles[r.profile].persistence ≤ n then
        { r with lastCode := codeOfVoltage volt, verdict := k.verdict, candidate := none, count := 0 }
      else { r with lastCode := codeOfVoltage volt, candidate := some k, count := n }) →
    ∀ u : State, u = s.setChan { s.chan with channels := setAt s.chan.channels c r', scan := rest } →
    ∃ t, exec (.conversionComplete volt) s = .next t ∧
      t.chan = u.chan ∧
      (r'.verdict = r.verdict ∨ r.contributing = false ∨ s.ctrl.station = .faulted → t = u) ∧
      (r'.verdict ≠ r.verdict → r.contributing = true → s.ctrl.station ≠ .faulted →
        t.sources = s.sources.map (fun e =>
          if e.key = { station := s.ctrl.settings.address, channel := c } then writtenEntry s.ctrl.tick (.line r'.verdict) e
          else e) ∧
        t.line = { s.line with queue :=
          if s.ctrl.station.voting then
            if s.line.queue.any (·.isChangeOf c) then s.line.queue.map (·.withVerdict c r'.verdict)
            else s.line.queue ++ [.change c r'.verdict]
          else s.line.queue } ∧
        t.peers = s.peers ∧ madeByUpdate u 0 t ∧ flagsRaised 0 s t ∧ keepsStation u t ∧ votesFollow s t)

/-! ### The line controller (R134 to R137, R146 to R155) -/

/-- A slot begins: it belongs to station (L + 1 + k) mod 16; where that is self, in JOIN and RUN, with items queued, a frame is
built from the head item and those that share it, takes the sequence number, and the counter advances; else the slot passes. The
characters of the frame are those of the RECEIVE command of its content, and decode to it: the own digest, beat interval and
contributing channels, the verdicts of all eight channels, the changed channels with their verdicts, the peers probed, the
points to clear (R124 to R127, R134, R136, R150, R151, R188). -/
def Obligations.OwnedSlotsStartFrames : Prop :=
  ∀ (s : State) (k : Nat), s.ctrl.station.online = true → s.line.inFlight = none →
    (match s.line.slots with
      | .notKept => False
      | .stopped => k = 0
      | .slot j => k = j + 1) →
    (¬(s.ctrl.station.voting = true ∧ s.line.queue ≠ [] ∧
        ∃ l ∈ s.line.lastSender, (l.val + 1 + k) % 16 = s.ctrl.settings.address.val) →
      exec .slotStart s = .next (s.setLine { s.line with slots := .slot k })) ∧
    (s.ctrl.station.voting = true → (∃ l ∈ s.line.lastSender, (l.val + 1 + k) % 16 = s.ctrl.settings.address.val) →
      ∀ head rest, s.line.queue = head :: rest →
        ∀ kind items left,
        (kind, items, left) = (match head with
          | .join => (FrameKind.join, [SendItem.join], rest)
          | .beat => (FrameKind.beat, [SendItem.beat], rest.filter fun i => !i.isChange)
          | .change _ _ => (FrameKind.change, s.line.queue.filter (·.isChange), s.line.queue.filter fun i => !i.isChange)
          | .probe _ => (FrameKind.probe, s.line.queue.filter (·.isProbe), s.line.queue.filter fun i => !i.isProbe)
          | .clear m => (FrameKind.clear, [SendItem.clear m], rest)) →
        ∃ f : InFlight, f.kind = kind ∧ f.sequence = s.line.sequence ∧ f.items = items ∧
          exec .slotStart s = .next (s.setLine { s.line with
            queue := left, inFlight := some f, sequence := s.line.sequence + 1, slots := .stopped, receiver := .collecting }) ∧
          ((kind = .change → items.length ≤ 8) → (kind = .probe → items.length ≤ 4) →
            ∃ i : Instr, encodeFrame i = some (f.characters s.ctrl.settings.address) ∧
              decodeFrame (f.characters s.ctrl.settings.address) = i ∧
              match head with
              | .join => ∃ mask : Byte, (∀ c : Channel, mask.getLsbD c.val = s.chan.channels[c].contributing) ∧
                  i = .receiveJoin s.ctrl.settings.address s.line.sequence (s.ctrl.digest.getD 0)
                    (natByte s.ctrl.settings.beat) mask
              | .beat => ∃ codes : Vector Byte 8, (∀ c : Channel, codes[c] = s.chan.channels[c].verdict.code) ∧
                  i = .receiveBeat s.ctrl.settings.address s.line.sequence (s.ctrl.digest.getD 0) codes
              | .change _ _ => ∃ entries : List Byte, entries.length = items.length ∧
                  (∀ (j : Nat) (c : Channel) (v : LineVerdict), items[j]? = some (.change c v) →
                    entries[j]? = some (BitVec.ofNat 8 (16 * c.val + v.code.toNat))) ∧
                  i = .receiveChange s.ctrl.settings.address s.line.sequence entries
              | .probe _ => ∃ targets : List Byte, targets.length = items.length ∧
                  (∀ (j : Nat) (a : Address), items[j]? = some (.probe a) → targets[j]? = some (BitVec.ofNat 8 a.val)) ∧
                  i = .receiveProbe s.ctrl.settings.address s.line.sequence targets
              | .clear m => i = .receiveClear s.ctrl.settings.address s.line.sequence m))

/-- An own frame completes: its items are gone, L is the own address, the abort count 0; a JOIN also queues a BEAT and starts
the beat timer and the settle period. The beat timer's expiry queues a BEAT unless one is pending and starts the timer again
(R132, R135, R147, R154, R168, R169). That this expiry is taken on `u`, after the ms the beat timer had left have passed for
every timer, is the model's choice (log 2). -/
def Obligations.FrameCompletionAndBeatTimer : Prop :=
  (∀ (s u : State) (f : InFlight), s.ctrl.station.voting = true → s.line.inFlight = some f →
    u = s.setLine { s.line with
      inFlight := none, lastSender := some s.ctrl.settings.address, aborts := 0, slots := .stopped, receiver := .waiting false } →
    (f.kind ≠ .join → exec .frameComplete s = .next u) ∧
    (f.kind = .join → exec .frameComplete s = .next ((u.setLine { u.line with
        queue := if .beat ∈ s.line.queue then s.line.queue else s.line.queue ++ [.beat] }).setCtrl
      { s.ctrl with
        beatTimer := some (10 * s.ctrl.settings.beat)
        settle := some (2 * (10 * s.ctrl.settings.beat)) }))) ∧
  ∀ (s u : State) (r : Nat), s.ctrl.station.voting = true → s.ctrl.beatTimer = some r → u = elapse r s →
    exec .beatTimerExpiry s = .next ((u.setLine { s.line with
      queue := if .beat ∈ s.line.queue then s.line.queue else s.line.queue ++ [.beat] }).setCtrl
        { u.ctrl with beatTimer := some (10 * s.ctrl.settings.beat) })

/-- An own frame is aborted: its items are restored ahead of the pending ones or dropped, kind by kind; the abort count rises, the
sequence number stays spent, L stays; the eighth abort in a row puts the station in FAULTED with cause LINE: periods and timers
stopped, queue emptied, each group by its fail action, FAULT set, the votes, the peers and the sources frozen (R71, R137, R152 to
R154, R171). -/
def Obligations.AbortedFramesAreRestored : Prop :=
  ∀ (s u : State) (f : InFlight) (q : List SendItem), s.ctrl.station.voting = true → s.line.inFlight = some f → f.itemsFit →
    q = (match f.kind with
      | .join => .join :: s.line.queue
      | .beat => if .beat ∈ s.line.queue then s.line.queue else .beat :: s.line.queue
      | .change => (f.items.filter fun i => match i with
          | .change c _ => !s.line.queue.any (·.isChangeOf c)
          | .join | .beat | .probe _ | .clear _ => false) ++ s.line.queue
      | .probe => ((f.items.filter fun i => !s.line.queue.contains i).take (4 - s.line.queue.countP (·.isProbe))) ++ s.line.queue
      | .clear => if s.line.queue.any (·.isClear) then s.line.queue.map (fun i => match f.items with
            | [.clear m] => i.orMask m
            | _ => i)
          else f.items ++ s.line.queue) →
    u = s.setLine { s.line with
      queue := q, inFlight := none, aborts := s.line.aborts + 1, slots := .stopped, receiver := .collecting } →
    (s.line.aborts < 7 → exec .abort s = .next u) ∧
    (7 ≤ s.line.aborts → ∃ t, exec .abort s = .next t ∧ entersFaulted .line u t)

/-- Line activity stops the slot count and opens a dominant run at a waiting receiver. A broken frame and a gap reach no block
beyond the line controller and leave L and the queue as they were; a short run that is the rest of an abandoned frame breaks
nothing. A receiver that waits completes and breaks no frame, one that has waited since LISTEN entry has none to report, and
outside LISTEN, JOIN and RUN reception is ignored (R130, R145, R146, R149, R150, R158; that the commands then change nothing is
the model's choice, log 4 and 13, and log 35 for a frame under way at LISTEN entry). -/
def Obligations.BrokenFramesReachNoBlock : Prop :=
  ∀ s : State,
    (s.ctrl.station.online = false → ∀ i, carriesFrame i ∨ (∃ reason, i = .brokenFrame reason) ∨ i = .characterGapTimeout ∨
      i = .lineActivity → exec i s = .next s) ∧
    (s.ctrl.station.online = true →
      exec .lineActivity s = .next (s.setLine { s.line with
        slots := .stopped
        receiver := match s.line.receiver with
          | .entered b | .waiting b => .timing b
          | r => r }) ∧
      (s.line.inFlight = none →
        (∀ reason, s.line.receiver = .timing false ∨ s.line.receiver = .collecting ∨
            (s.line.receiver = .timing true ∧ reason ≠ .shortBreak) →
          exec (.brokenFrame reason) s = .next (s.setLine { s.line with
            slots := .stopped, receiver := if reason = .newBreak then .collecting else .waiting true })) ∧
        (s.line.receiver = .timing true → exec (.brokenFrame .shortBreak) s = .next s) ∧
        ((∃ b, s.line.receiver = .timing b) ∨ s.line.receiver = .collecting →
          exec .characterGapTimeout s = .next (s.setLine { s.line with receiver := .waiting true })) ∧
        ((∃ b, s.line.receiver = .waiting b ∨ s.line.receiver = .entered b) →
          ∀ i, (carriesFrame i ∧ i ≠ .duplicateAddress) ∨ (∃ reason, i = .brokenFrame reason) ∨
            i = .characterGapTimeout → exec i s = .next s) ∧
        ((∃ b, s.line.receiver = .entered b) → exec .duplicateAddress s = .next s)))

/-- A valid frame of unknown kind from another station sets L and does nothing else. One with the own address, of any kind, sets L
and puts the station in FAULTED with cause DUPLICATE_ADDRESS: periods and timers stopped, queue emptied, each group by its fail
action, FAULT set, the votes, the peers and the sources frozen. A report taken before an own frame in flight completes cuts that
frame off, and one taken after the completion, by the receiver that waits again, faults the station as any other (R71, R129, R138,
R147, R155, R171, R173; L after such a report is the model's choice, log 32). -/
def Obligations.OwnAddressHeardFaultsTheStation : Prop :=
  ∀ s : State, s.ctrl.station.online = true →
    let collecting : Prop := s.line.inFlight = none ∧ ((∃ b, s.line.receiver = .timing b) ∨ s.line.receiver = .collecting)
    (∀ a : Address, collecting → a ≠ s.ctrl.settings.address →
      exec (.receiveUnknownKind a) s = .next (s.setLine { s.line with
        lastSender := some a, slots := .stopped, receiver := .waiting false })) ∧
    ∀ i : Instr, ((i = .duplicateAddress ∧ s.line.receiver ≠ .idle ∧ ∀ b, s.line.receiver ≠ .entered b) ∨ collecting ∧ (
        i = .receiveUnknownKind s.ctrl.settings.address ∨
        (∃ q d b m, i = .receiveJoin s.ctrl.settings.address q d b m) ∨
        (∃ q d w, i = .receiveBeat s.ctrl.settings.address q d w) ∨
        (∃ q l, 1 ≤ l.length ∧ l.length ≤ 8 ∧ i = .receiveChange s.ctrl.settings.address q l) ∨
        (∃ q l, 1 ≤ l.length ∧ l.length ≤ 4 ∧ i = .receiveProbe s.ctrl.settings.address q l) ∨
        (∃ q m, i = .receiveClear s.ctrl.settings.address q m))) →
      ∃ t, exec i s = .next t ∧
        entersFaulted .duplicateAddress (s.setLine { s.line with lastSender := some s.ctrl.settings.address }) t

/-! ### Frames at the peer monitor (R106 to R114, R118, R119) -/

/-- A JOIN from a peer: one that matches in digest and beat interval brings it LIVE with its sources UNKNOWN; one that does not
excludes it with DIGEST and PEER set, or finds it EXCLUDED and does its bookkeeping alone. A matching JOIN sets PEER and leaves
DIGEST; the sources and the peer's state change by one update, the votes follow, L is taken, the queue stands (R31, R35, R106,
R107, R109, R118, R119, R147). -/
def Obligations.JoinMovesItsSender : Prop :=
  ∀ (s : State) (v : PeerTable) (a : Address) (q : Byte) (d : Half) (beat chans : Byte) (e : PeerEntry), s.hears v →
    a ≠ s.ctrl.settings.address → e = { heardBy s q v[a] with digest := some d, channels := some chans } →
    ∀ h : State, h = s.setLine { s.line with lastSender := some a, slots := .stopped, receiver := .waiting false } →
    ∃ t, exec (.receiveJoin a q d beat chans) s = .next t ∧ t.line = h.line ∧
      keepsStation s t ∧ votesFollow s t ∧
      (s.ctrl.digest = some d ∧ beat.toNat = s.ctrl.settings.beat →
        t.peers = some (setAt v a { e with state := .live, heal := none }) ∧
        t.sources = s.sources.map (discardedEntry s.ctrl.tick a) ∧ madeByUpdate h 0x04 t ∧ flagsRaised 0x04 s t) ∧
      (¬(s.ctrl.digest = some d ∧ beat.toNat = s.ctrl.settings.beat) →
        (v[a].state = .excluded → t.peers = some (setAt v a e) ∧ t.sources = s.sources ∧ keepsVotes s t ∧
          t.port = s.port) ∧
        (v[a].state ≠ .excluded → t.peers = some (setAt v a { e with state := .excluded, heal := none }) ∧
          t.sources = s.sources.map (discardedEntry s.ctrl.tick a) ∧ madeByUpdate h 0x0C t ∧ flagsRaised 0x0C s t))

/-- A BEAT from a peer: one that matches brings it LIVE and loads every key of the peer, and sets PEER where it was not LIVE and
no flag where it was; one that does not match acts as a mismatching JOIN. Sources and state change by one update, and the votes
follow (R28, R30, R35, R106, R107, R110, R118, R119, R147). -/
def Obligations.BeatLoadsItsSender : Prop :=
  ∀ (s : State) (v : PeerTable) (a : Address) (q : Byte) (d : Half) (codes : Vector Byte 8) (e : PeerEntry), s.hears v →
    a ≠ s.ctrl.settings.address → e = { heardBy s q v[a] with digest := some d } →
    ∀ h : State, h = s.setLine { s.line with lastSender := some a, slots := .stopped, receiver := .waiting false } →
    ∃ t, exec (.receiveBeat a q d codes) s = .next t ∧ t.line = h.line ∧
      keepsStation s t ∧ votesFollow s t ∧
      (s.ctrl.digest = some d →
        t.peers = some (setAt v a { e with state := .live, heal := none }) ∧
        t.sources = s.sources.map (fun x => if x.key.station = a then
          writtenEntry s.ctrl.tick (.line (verdictOfCode codes[x.key.channel].toNat)) x else x) ∧
        ∀ peer : BitVec 7, peer = (if v[a].state = .live then 0 else 0x04) → madeByUpdate h peer t ∧ flagsRaised peer s t) ∧
      (s.ctrl.digest ≠ some d →
        (v[a].state = .excluded → t.peers = some (setAt v a e) ∧ t.sources = s.sources ∧ keepsVotes s t ∧
          t.port = s.port) ∧
        (v[a].state ≠ .excluded → t.peers = some (setAt v a { e with state := .excluded, heal := none }) ∧
          t.sources = s.sources.map (discardedEntry s.ctrl.tick a) ∧ madeByUpdate h 0x0C t ∧ flagsRaised 0x0C s t))

/-- A CHANGE from a peer, by its state: applied from LIVE in sequence and from GAPPED; applied with the state GAPPED, the heal
timer, PEER and a PROBE item on a gap; not applied from UNHEARD and SILENT, drawing a PROBE item in JOIN and RUN; ignored from
EXCLUDED. PEER is set by the gap alone and DIGEST never; what is applied is one update, or none where no entry names a channel 0
to 7. The bookkeeping is done in every state, and the votes follow (R28, R29, R35, R106, R108, R111, R114, R119). -/
def Obligations.ChangeActsByItsSendersState : Prop :=
  ∀ (s : State) (v : PeerTable) (a : Address) (q : Byte) (entries : List Byte) (e : PeerEntry) (written : List SourceEntry),
    s.hears v → a ≠ s.ctrl.settings.address → 1 ≤ entries.length → entries.length ≤ 8 → e = heardBy s q v[a] →
    written = s.sources.map (fun x => if x.key.station = a then
      (match lastEntryFor entries x.key.channel with
        | some code => writtenEntry s.ctrl.tick (.line (verdictOfCode code.toNat)) x
        | none => x) else x) →
    ∀ h : State, h = s.setLine { s.line with lastSender := some a, slots := .stopped, receiver := .waiting false } →
    ∃ t, exec (.receiveChange a q entries) s = .next t ∧ keepsStation s t ∧ votesFollow s t ∧
      t.line = { s.line with
        lastSender := some a, slots := .stopped, receiver := .waiting false
        queue := if v[a].state = .unheard ∨ v[a].state = .silent ∨ (v[a].state = .live ∧ v[a].expected ≠ some q)
          then probed s a s.line.queue else s.line.queue } ∧
      (v[a].state = .live → v[a].expected ≠ some q →
        t.peers = some (setAt v a { e with state := .gapped, heal := some (10 * s.ctrl.settings.beat) }) ∧
        t.sources = written ∧ madeByUpdate h 0x04 t ∧ flagsRaised 0x04 s t) ∧
      (v[a].state = .live ∧ v[a].expected = some q ∨ v[a].state = .gapped →
        t.peers = some (setAt v a e) ∧ t.sources = written ∧ flagsRaised 0 s t ∧
        ((∃ b ∈ entries, (highNibble b).toNat < 8) → madeByUpdate h 0 t) ∧
        ((∀ b ∈ entries, 8 ≤ (highNibble b).toNat) → keepsVotes s t ∧ t.port = s.port)) ∧
      (v[a].state = .unheard ∨ v[a].state = .silent ∨ v[a].state = .excluded →
        t.peers = some (setAt v a e) ∧ t.sources = s.sources ∧ keepsVotes s t ∧ t.port = s.port)

/-- A PROBE or a CLEAR from a peer, by its state: applied from LIVE in sequence and from GAPPED; from LIVE with a gap applied
with the state GAPPED, the heal timer, PEER and a PROBE item; from UNHEARD and SILENT it draws a PROBE item alone; from EXCLUDED
it is ignored. An applied PROBE naming self queues a BEAT item in JOIN and RUN; an applied CLEAR clears its mask in RUN (R75,
R106, R108, R112 to R114, R119, R132). -/
def Obligations.ProbeAndClearActByTheirSendersState : Prop :=
  ∀ (s : State) (v : PeerTable) (a : Address) (q : Byte) (e : PeerEntry), s.hears v → a ≠ s.ctrl.settings.address →
    e = heardBy s q v[a] →
    ∀ (gap applied : Bool), gap = decide (v[a].state = .live ∧ v[a].expected ≠ some q) →
      applied = decide (v[a].state = .live ∨ v[a].state = .gapped) →
      ∀ (asked : Bool), asked = decide (v[a].state = .unheard ∨ v[a].state = .silent ∨ gap = true) →
      ∀ u : State, u = (s.setPeers (some (setAt v a (
          if gap then { e with state := .gapped, heal := some (10 * s.ctrl.settings.beat) } else e)))).setPort
            { s.port with flags := if gap then s.port.flags ||| 0x04 else s.port.flags } →
      (∀ targets : List Byte, 1 ≤ targets.length → targets.length ≤ 4 →
        ∃ t queue, exec (.receiveProbe a q targets) s = .next t ∧
          t = ((u.setLine { s.line with
            lastSender := some a, slots := .stopped, receiver := .waiting false, queue := queue }).setChoices t.choices) ∧
          queue.Perm (
            let beatQueue := if applied = true ∧ s.ctrl.station.voting = true ∧ .beat ∉ s.line.queue ∧
                (∃ b ∈ targets, b.toNat = s.ctrl.settings.address.val) then s.line.queue ++ [.beat] else s.line.queue
            if asked then probed s a beatQueue else beatQueue) ∧
          s.line.queue <+: queue) ∧
      ∀ m : PointMask, ∃ t, exec (.receiveClear a q m) s = .next t ∧
        ∀ w : State, w = (u.setLine { s.line with
            lastSender := some a, slots := .stopped, receiver := .waiting false
            queue := if asked then probed s a s.line.queue else s.line.queue }).setChoices t.choices →
        (applied = true ∧ s.ctrl.station = .run → clearsTaken m w t) ∧
        (¬(applied = true ∧ s.ctrl.station = .run) → t = w)

/-! ### Coding (R123 to R129, R175, R188, R189) -/

/-- Every request decodes from its own bytes, whatever follows them, and from no shorter run of them; and from the levels on SDI
at the rising edges of SCK, eight to a byte, most significant bit first, whatever follows them, and from no fewer (R174, R175,
section 11.4). -/
def Obligations.RequestsDecodeFromTheirBytes : Prop :=
  ∀ (i : Instr) (bytes : List Byte) (levels : List Bool), i.wellFormed = true → encodeRequest i = some bytes →
    levels = bytes.flatMap (fun b => [b.getLsbD 7, b.getLsbD 6, b.getLsbD 5, b.getLsbD 4, b.getLsbD 3, b.getLsbD 2, b.getLsbD 1,
      b.getLsbD 0]) →
    (∀ more, decodeRequest (bytes ++ more) = some i) ∧ (∀ few, few <+: bytes → few ≠ bytes → decodeRequest few = none) ∧
    (∀ more, decodeSamples (levels ++ more) = some i) ∧ ∀ few, few <+: levels → few ≠ levels → decodeSamples few = none

/-- Every frame of a known kind decodes from its own characters (R123 to R127, R129, R188, R189). -/
def Obligations.FramesDecodeFromTheirCharacters : Prop :=
  ∀ (i : Instr) (chars : List Byte), i.wellFormed = true → encodeFrame i = some chars → decodeFrame chars = i

/-- The codes, the byte orders and the digest stream of chapter 11. Every code of sections 11.1, 11.2 and 11.4 that a result or
a frame carries; a received code that is no line verdict is FAULT; halves, ticks and point masks byte by byte; the stream of a
point table, which group, confirm time and release time do not enter; and bytes and words written out by hand, the digest worked
in section 11.3 among them (R8, R28, R128, R175, R188, R189, R190). -/
def Obligations.ChapterElevenCodesAndBytes : Prop :=
  ([StationState.setup, .validating, .listen, .join, .run, .faulted].map (·.code) = [1, 2, 3, 4, 5, 6] ∧
    [FaultCause.none, .duplicateAddress, .line].map (·.code) = [0, 1, 2] ∧
    [RejectReason.none, .noPoints, .channelDisabled, .profileInvalid, .sourceLimit].map (·.code) = [0, 1, 2, 3, 4] ∧
    [LineRate.kbit62, .kbit125, .kbit250, .kbit500].map (·.code) = [0, 1, 2, 3] ∧
    [LineVerdict.normal, .low, .high, .band, .fault, .off, .unsettled].map (·.code) = [0, 1, 2, 3, 4, 5, 6] ∧
    (∀ v : LineVerdict, (Verdict.line v).code = v.code) ∧ Verdict.unknown.code = 7 ∧
    [PointState.clear, .arming, .tripped, .releasing, .held].map (·.code) = [0, 1, 2, 3, 4] ∧
    [PeerState.self, .unheard, .live, .gapped, .silent, .excluded].map (·.code) = [0, 1, 2, 3, 4, 5] ∧
    [Standing.normal, .excursion, .unavailable].map (·.code) = [0, 1, 2] ∧
    [Policy.failtrip, .ignore, .degrade].map (·.code) = [0, 1, 2] ∧
    [Output.highImpedance, .asserted, .released].map (·.code) = [0, 1, 2] ∧
    [CaptureCause.tripEvent, .runEntry].map (·.code) = [0, 1] ∧
    [FrameKind.join, .beat, .change, .probe, .clear].map (·.code) = [1, 2, 3, 4, 5] ∧
    [EventFlag.trip, .firstOut, .peer, .digest, .refused, .fault, .startDone].map (·.place) = [0, 1, 2, 3, 4, 5, 6] ∧
    [false, true].map boolByte = [0, 1]) ∧
  ((List.range 7).map verdictOfCode = [.normal, .low, .high, .band, .fault, .off, .unsettled] ∧
    ∀ n, 7 ≤ n → verdictOfCode n = .fault) ∧
  ((∀ w : Half, (halfBytes w).map (·.toNat) = [w.toNat / 256, w.toNat % 256]) ∧
    (∀ n : Nat, (natByte n).toNat = n % 256 ∧ natHalfBytes n = [natByte (n / 256), natByte n]) ∧
    (∀ t : Tick, (tickBytes t).map (·.toNat) = [t.toNat / 2 ^ 24, t.toNat / 2 ^ 16 % 256, t.toNat / 256 % 256, t.toNat % 256]) ∧
    ∀ (m : PointMask) (j k : Nat), j < 3 → k < 8 → ∃ b ∈ (maskBytes m)[j]?, b.getLsbD k = m.getLsbD (8 * j + k)) ∧
  ((∀ (beat : Nat) (t : PointTable), digestStream beat t = natByte beat :: (List.finRange 24).flatMap fun p =>
      match t[p] with
      | none => []
      | some r => [natByte p.val, natByte r.quorum, r.mask.setWidth 8, r.policy.code, boolByte r.latched,
          natByte r.contributors.length] ++ r.contributors.map fun q => natByte (16 * q.station.val + q.channel.val)) ∧
    (∀ (beat : Nat) (t t' : PointTable),
      (∀ p : PointNo, t'[p] = t[p].map fun r =>
        { r with group := (t'[p].map (·.group)).getD 0, confirm := (t'[p].map (·.confirm)).getD 0,
                 release := (t'[p].map (·.release)).getD 0 }) →
      digestStream beat t' = digestStream beat t) ∧
    ∀ (g : GroupNo) (confirm release : Nat), digestStream 10 (setAt PointTable.empty 0 (some
      { quorum := 2, mask := 2, policy := .failtrip, latched := true, group := g, confirm := confirm, release := release
        contributors := [⟨0, 2⟩, ⟨1, 2⟩, ⟨2, 2⟩] })) =
      [0x0A, 0x00, 0x02, 0x02, 0x00, 0x01, 0x03, 0x02, 0x12, 0x22]) ∧
  crc16 [0x0A, 0x00, 0x02, 0x02, 0x00, 0x01, 0x03, 0x02, 0x12, 0x22] = 0xA461 ∧
  decodeRequest [0x10, 0x01, 0x01, 0x0A, 0x0A] = some (.setStation 1 1 10 10) ∧
  decodeRequest [0x15, 0x02, 0x02, 0x00, 0x01, 0x00, 0x01, 0xF4, 0x00, 0x00] = some (.stagePoint 2 2 0 1 0 500 0) ∧
  decodeRequest [0x32, 0x01, 0x02, 0x80, 0x01] = some (.clearPoints 0x800201 1) ∧
  decodeRequest [0x22, 0x05] = none ∧
  decodeRequest [0x40] = some (.unknownRequest 0x40) ∧
  decodeSamples [false, false, true, false, false, false, false, true, false, false, false, false, false, true, false, true] =
    some (.readPoint 5) ∧
  (frameCharacters 1 1 0 [0xA4, 0x61, 0x0A, 0x04]).take 7 = [0x11, 0x00, 0x04, 0xA4, 0x61, 0x0A, 0x04]

/-- Two frames started together by distinct addresses first differ, on the line, in the lowest address bit in which the addresses
differ: the station with a 1 there reads a mismatch at that bit and the other reads none up to it (R142, R143, R152, R188). -/
def Obligations.LowestAddressBitDecidesCollisions : Prop :=
  ∀ (a b : Address) (j : Nat) (ka kb : BitVec 4) (qa qb : Byte) (bodyA bodyB : List Byte),
    j < 4 → (∀ i < j, a.val.testBit i = b.val.testBit i) → a.val.testBit j = true → b.val.testBit j = false →
    ∀ la lb, la = frameLevels (frameCharacters ka a qa bodyA) → lb = frameLevels (frameCharacters kb b qb bodyB) →
      firstMismatch la (lineLevels la lb) = some (15 + j) ∧
      (lineLevels la lb).take (16 + j) = lb.take (16 + j)

/-! ### Rules over every command (R16, R78, R136, R161, R171, R183) -/

/-- No command but POWER_ON and RST low changes the configuration outside SETUP: settings, point table, profiles, channel and
group settings (R16, R161). -/
def Obligations.ConfigurationIsFrozenOutsideSetup : Prop :=
  ∀ (i : Instr) (s t : State), exec i s = .next t → s.ctrl.station ≠ .setup → i ≠ .powerOn → (∀ m, i ≠ .rstLow m) →
    sameConfiguration s t

/-- FAULTED is left by RESTART, RST low and POWER_ON alone; until then the cause, the peers, the sources, the points, the groups
and the queue stand as they are (R62, R71, R120, R171). -/
def Obligations.FaultedIsLeftByRestartAndResetAlone : Prop :=
  ∀ (i : Instr) (s t : State), exec i s = .next t → s.ctrl.station = .faulted → i ≠ .restart → i ≠ .powerOn →
    (∀ m, i ≠ .rstLow m) →
    t.ctrl.station = .faulted ∧ t.ctrl.cause = s.ctrl.cause ∧ t.peers = s.peers ∧ t.sources = s.sources ∧
      t.contexts = s.contexts ∧ t.trip.groups = s.trip.groups ∧ t.line = s.line

/-- An event flag that is set stays set until READ_EVENTS, RESTART, POWER_ON or RST low (R183). -/
def Obligations.FlagsStayUntilReadOrReset : Prop :=
  ∀ (i : Instr) (s t : State) (f : EventFlag), exec i s = .next t → s.flagSet f = true → i ≠ .readEvents → i ≠ .restart →
    i ≠ .powerOn → (∀ m, i ≠ .rstLow m) → t.flagSet f = true

/-- A captured first-out record keeps its point, tick, snapshot and cause, and its count does not fall, until it is acknowledged
or the station is restarted or reset (R78). The records are EMPTY outside RUN and FAULTED. -/
def Obligations.FirstOutStandsUntilAcknowledged : Prop :=
  ∀ (i : Instr) (s t : State) (g : GroupNo) (f : FirstOut), exec i s = .next t → FirstOutInv s →
    s.trip.firstOut[g] = some f → (∀ b, i = .ackFirstOut b → b.toNat ≠ g.val) → i ≠ .restart → i ≠ .powerOn →
    (∀ m, i ≠ .rstLow m) →
    ∃ f', t.trip.firstOut[g] = some f' ∧ f'.point = f.point ∧ f'.tick = f.tick ∧ f'.snapshot = f.snapshot ∧
      f'.cause = f.cause ∧ f.subsequent ≤ f'.subsequent ∧ f'.subsequent ≤ 255

/-- The own sequence counter moves by one, modulo 256, at each frame start, which takes the number it held, and at no other
command but those that set it to 0 (R136). -/
def Obligations.SequenceAdvancesAtFrameStarts : Prop :=
  ∀ (i : Instr) (s t : State), exec i s = .next t →
    (i ≠ .slotStart → t.line.sequence = s.line.sequence ∨ t.line.sequence = 0 ∧
      (i = .restart ∨ i = .powerOn ∨ (∃ m, i = .rstLow m) ∨ ∃ b, i = .validationEnd b)) ∧
    (i = .slotStart → s.line.inFlight = none →
      (t.line.inFlight = none → t.line.sequence = s.line.sequence) ∧
      ∀ f ∈ t.line.inFlight, f.sequence = s.line.sequence ∧ t.line.sequence = s.line.sequence + 1)

/-! ### Invariants that every step keeps -/

/-- Each invariant holds right after power-on. -/
def Obligations.PowerOnStateMeetsTheInvariants : Prop :=
  TableInv State.reset ∧ LifeInv State.reset ∧ ChannelInv State.reset ∧ DerivedInv State.reset ∧ GroupInv State.reset ∧
    FirstOutInv State.reset

/-- The point table: every record a committed one, the counts right, the pool at most 96, at most 48 sources from LISTEN on (R1 to
R6, R9). -/
def Obligations.StepsKeepThePointTableWellFormed : Prop :=
  ∀ s t : State, TableInv s → step s = .next t → TableInv t

/-- The line controller and the station controller: the queue and the frame in flight within their bounds, JOIN sent once, timers,
periods, digest, cause and rejection where the station state has them (R128, R131, R135, R140, R154, R158, R159). -/
def Obligations.StepsKeepQueueBoundsAndLifeCycle : Prop :=
  ∀ s t : State, LifeInv s → step s = .next t → LifeInv t

/-- The channel records: count and candidate agree and stay below the persistence, OFF is disabled, contributing is named and
enabled (R83, R84, R88, R90, R95). -/
def Obligations.StepsKeepChannelRecords : Prop :=
  ∀ s t : State, ChannelInv s → step s = .next t → ChannelInv t

/-- Sources of UNHEARD, SILENT and EXCLUDED peers hold UNKNOWN; the verdict table keeps its keys and references; SELF stands at
the own address alone; peer timers run where they may (R19, R21, R23, R32, R103, R104). -/
def Obligations.StepsKeepUnheardSourcesUnknown : Prop :=
  ∀ s t : State, VerdictInv s → step s = .next t → VerdictInv t

/-- In JOIN and RUN a point is in ARMING or TRIPPED exactly when its count reaches its effective quorum; only latched points are
HELD and only others RELEASING; each timer belongs to its state (R38, R56, R57, R58). -/
def Obligations.StepsKeepPointStatesTrueToCounts : Prop :=
  ∀ s t : State, VoteInv s → step s = .next t → VoteInv t

/-- In JOIN and RUN every standing the vote engine holds is the one the verdict table and the peer table derive (R36, R42). -/
def Obligations.StepsKeepStandingsDerived : Prop :=
  ∀ s t : State, DerivedInv s → step s = .next t → DerivedInv t

/-- In RUN a group's output is asserted exactly while one of its points is TRIPPED, RELEASING or HELD, and in every other state
it is the one R68 gives; first-out records are EMPTY outside RUN and FAULTED and count to 255 at most (R67, R68, R69, R71, R77,
R78). -/
def Obligations.StepsKeepOutputsTrueToPoints : Prop :=
  ∀ s t : State, GroupInv s ∧ FirstOutInv s → step s = .next t → GroupInv t ∧ FirstOutInv t

end
end

