-- ==== Sys2Proof/Laws/State.lean ====
section
/-! SUPPORT. Laws/State.lean: each named update of the state, read back field by field: the field it replaces holds the new
value, and every other field is as it was; of two updates of one field the second stands. -/

namespace Sys2Proof.Machine

/-! ### setPending -/

@[simp] theorem State.setPending_pending (s : State) (x : List Instr) : (s.setPending x).pending = x := rfl
@[simp] theorem State.setPending_pins (s : State) (x : List Instr) : (s.setPending x).pins = s.pins := rfl
@[simp] theorem State.setPending_ctrl (s : State) (x : List Instr) : (s.setPending x).ctrl = s.ctrl := rfl
@[simp] theorem State.setPending_chan (s : State) (x : List Instr) : (s.setPending x).chan = s.chan := rfl
@[simp] theorem State.setPending_line (s : State) (x : List Instr) : (s.setPending x).line = s.line := rfl
@[simp] theorem State.setPending_peers (s : State) (x : List Instr) : (s.setPending x).peers = s.peers := rfl
@[simp] theorem State.setPending_sources (s : State) (x : List Instr) : (s.setPending x).sources = s.sources := rfl
@[simp] theorem State.setPending_contexts (s : State) (x : List Instr) : (s.setPending x).contexts = s.contexts := rfl
@[simp] theorem State.setPending_trip (s : State) (x : List Instr) : (s.setPending x).trip = s.trip := rfl
@[simp] theorem State.setPending_port (s : State) (x : List Instr) : (s.setPending x).port = s.port := rfl
@[simp] theorem State.setPending_choices (s : State) (x : List Instr) : (s.setPending x).choices = s.choices := rfl
@[simp] theorem State.setPending_setPending (s : State) (x y : List Instr) : (s.setPending x).setPending y = s.setPending y := rfl

/-! ### setPins -/

@[simp] theorem State.setPins_pending (s : State) (x : InputPins) : (s.setPins x).pending = s.pending := rfl
@[simp] theorem State.setPins_pins (s : State) (x : InputPins) : (s.setPins x).pins = x := rfl
@[simp] theorem State.setPins_ctrl (s : State) (x : InputPins) : (s.setPins x).ctrl = s.ctrl := rfl
@[simp] theorem State.setPins_chan (s : State) (x : InputPins) : (s.setPins x).chan = s.chan := rfl
@[simp] theorem State.setPins_line (s : State) (x : InputPins) : (s.setPins x).line = s.line := rfl
@[simp] theorem State.setPins_peers (s : State) (x : InputPins) : (s.setPins x).peers = s.peers := rfl
@[simp] theorem State.setPins_sources (s : State) (x : InputPins) : (s.setPins x).sources = s.sources := rfl
@[simp] theorem State.setPins_contexts (s : State) (x : InputPins) : (s.setPins x).contexts = s.contexts := rfl
@[simp] theorem State.setPins_trip (s : State) (x : InputPins) : (s.setPins x).trip = s.trip := rfl
@[simp] theorem State.setPins_port (s : State) (x : InputPins) : (s.setPins x).port = s.port := rfl
@[simp] theorem State.setPins_choices (s : State) (x : InputPins) : (s.setPins x).choices = s.choices := rfl
@[simp] theorem State.setPins_setPins (s : State) (x y : InputPins) : (s.setPins x).setPins y = s.setPins y := rfl

/-! ### setCtrl -/

@[simp] theorem State.setCtrl_pending (s : State) (x : Controller) : (s.setCtrl x).pending = s.pending := rfl
@[simp] theorem State.setCtrl_pins (s : State) (x : Controller) : (s.setCtrl x).pins = s.pins := rfl
@[simp] theorem State.setCtrl_ctrl (s : State) (x : Controller) : (s.setCtrl x).ctrl = x := rfl
@[simp] theorem State.setCtrl_chan (s : State) (x : Controller) : (s.setCtrl x).chan = s.chan := rfl
@[simp] theorem State.setCtrl_line (s : State) (x : Controller) : (s.setCtrl x).line = s.line := rfl
@[simp] theorem State.setCtrl_peers (s : State) (x : Controller) : (s.setCtrl x).peers = s.peers := rfl
@[simp] theorem State.setCtrl_sources (s : State) (x : Controller) : (s.setCtrl x).sources = s.sources := rfl
@[simp] theorem State.setCtrl_contexts (s : State) (x : Controller) : (s.setCtrl x).contexts = s.contexts := rfl
@[simp] theorem State.setCtrl_trip (s : State) (x : Controller) : (s.setCtrl x).trip = s.trip := rfl
@[simp] theorem State.setCtrl_port (s : State) (x : Controller) : (s.setCtrl x).port = s.port := rfl
@[simp] theorem State.setCtrl_choices (s : State) (x : Controller) : (s.setCtrl x).choices = s.choices := rfl
@[simp] theorem State.setCtrl_setCtrl (s : State) (x y : Controller) : (s.setCtrl x).setCtrl y = s.setCtrl y := rfl

/-! ### setChan -/

@[simp] theorem State.setChan_pending (s : State) (x : Classifier) : (s.setChan x).pending = s.pending := rfl
@[simp] theorem State.setChan_pins (s : State) (x : Classifier) : (s.setChan x).pins = s.pins := rfl
@[simp] theorem State.setChan_ctrl (s : State) (x : Classifier) : (s.setChan x).ctrl = s.ctrl := rfl
@[simp] theorem State.setChan_chan (s : State) (x : Classifier) : (s.setChan x).chan = x := rfl
@[simp] theorem State.setChan_line (s : State) (x : Classifier) : (s.setChan x).line = s.line := rfl
@[simp] theorem State.setChan_peers (s : State) (x : Classifier) : (s.setChan x).peers = s.peers := rfl
@[simp] theorem State.setChan_sources (s : State) (x : Classifier) : (s.setChan x).sources = s.sources := rfl
@[simp] theorem State.setChan_contexts (s : State) (x : Classifier) : (s.setChan x).contexts = s.contexts := rfl
@[simp] theorem State.setChan_trip (s : State) (x : Classifier) : (s.setChan x).trip = s.trip := rfl
@[simp] theorem State.setChan_port (s : State) (x : Classifier) : (s.setChan x).port = s.port := rfl
@[simp] theorem State.setChan_choices (s : State) (x : Classifier) : (s.setChan x).choices = s.choices := rfl
@[simp] theorem State.setChan_setChan (s : State) (x y : Classifier) : (s.setChan x).setChan y = s.setChan y := rfl

/-! ### setLine -/

@[simp] theorem State.setLine_pending (s : State) (x : LineUnit) : (s.setLine x).pending = s.pending := rfl
@[simp] theorem State.setLine_pins (s : State) (x : LineUnit) : (s.setLine x).pins = s.pins := rfl
@[simp] theorem State.setLine_ctrl (s : State) (x : LineUnit) : (s.setLine x).ctrl = s.ctrl := rfl
@[simp] theorem State.setLine_chan (s : State) (x : LineUnit) : (s.setLine x).chan = s.chan := rfl
@[simp] theorem State.setLine_line (s : State) (x : LineUnit) : (s.setLine x).line = x := rfl
@[simp] theorem State.setLine_peers (s : State) (x : LineUnit) : (s.setLine x).peers = s.peers := rfl
@[simp] theorem State.setLine_sources (s : State) (x : LineUnit) : (s.setLine x).sources = s.sources := rfl
@[simp] theorem State.setLine_contexts (s : State) (x : LineUnit) : (s.setLine x).contexts = s.contexts := rfl
@[simp] theorem State.setLine_trip (s : State) (x : LineUnit) : (s.setLine x).trip = s.trip := rfl
@[simp] theorem State.setLine_port (s : State) (x : LineUnit) : (s.setLine x).port = s.port := rfl
@[simp] theorem State.setLine_choices (s : State) (x : LineUnit) : (s.setLine x).choices = s.choices := rfl
@[simp] theorem State.setLine_setLine (s : State) (x y : LineUnit) : (s.setLine x).setLine y = s.setLine y := rfl

/-! ### setPeers -/

@[simp] theorem State.setPeers_pending (s : State) (x : Option PeerTable) : (s.setPeers x).pending = s.pending := rfl
@[simp] theorem State.setPeers_pins (s : State) (x : Option PeerTable) : (s.setPeers x).pins = s.pins := rfl
@[simp] theorem State.setPeers_ctrl (s : State) (x : Option PeerTable) : (s.setPeers x).ctrl = s.ctrl := rfl
@[simp] theorem State.setPeers_chan (s : State) (x : Option PeerTable) : (s.setPeers x).chan = s.chan := rfl
@[simp] theorem State.setPeers_line (s : State) (x : Option PeerTable) : (s.setPeers x).line = s.line := rfl
@[simp] theorem State.setPeers_peers (s : State) (x : Option PeerTable) : (s.setPeers x).peers = x := rfl
@[simp] theorem State.setPeers_sources (s : State) (x : Option PeerTable) : (s.setPeers x).sources = s.sources := rfl
@[simp] theorem State.setPeers_contexts (s : State) (x : Option PeerTable) : (s.setPeers x).contexts = s.contexts := rfl
@[simp] theorem State.setPeers_trip (s : State) (x : Option PeerTable) : (s.setPeers x).trip = s.trip := rfl
@[simp] theorem State.setPeers_port (s : State) (x : Option PeerTable) : (s.setPeers x).port = s.port := rfl
@[simp] theorem State.setPeers_choices (s : State) (x : Option PeerTable) : (s.setPeers x).choices = s.choices := rfl
@[simp] theorem State.setPeers_setPeers (s : State) (x y : Option PeerTable) : (s.setPeers x).setPeers y = s.setPeers y := rfl

/-! ### setSources -/

@[simp] theorem State.setSources_pending (s : State) (x : List SourceEntry) : (s.setSources x).pending = s.pending := rfl
@[simp] theorem State.setSources_pins (s : State) (x : List SourceEntry) : (s.setSources x).pins = s.pins := rfl
@[simp] theorem State.setSources_ctrl (s : State) (x : List SourceEntry) : (s.setSources x).ctrl = s.ctrl := rfl
@[simp] theorem State.setSources_chan (s : State) (x : List SourceEntry) : (s.setSources x).chan = s.chan := rfl
@[simp] theorem State.setSources_line (s : State) (x : List SourceEntry) : (s.setSources x).line = s.line := rfl
@[simp] theorem State.setSources_peers (s : State) (x : List SourceEntry) : (s.setSources x).peers = s.peers := rfl
@[simp] theorem State.setSources_sources (s : State) (x : List SourceEntry) : (s.setSources x).sources = x := rfl
@[simp] theorem State.setSources_contexts (s : State) (x : List SourceEntry) : (s.setSources x).contexts = s.contexts := rfl
@[simp] theorem State.setSources_trip (s : State) (x : List SourceEntry) : (s.setSources x).trip = s.trip := rfl
@[simp] theorem State.setSources_port (s : State) (x : List SourceEntry) : (s.setSources x).port = s.port := rfl
@[simp] theorem State.setSources_choices (s : State) (x : List SourceEntry) : (s.setSources x).choices = s.choices := rfl
@[simp] theorem State.setSources_setSources (s : State) (x y : List SourceEntry) : (s.setSources x).setSources y = s.setSources y := rfl

/-! ### setContexts -/

@[simp] theorem State.setContexts_pending (s : State) (x : ContextTable) : (s.setContexts x).pending = s.pending := rfl
@[simp] theorem State.setContexts_pins (s : State) (x : ContextTable) : (s.setContexts x).pins = s.pins := rfl
@[simp] theorem State.setContexts_ctrl (s : State) (x : ContextTable) : (s.setContexts x).ctrl = s.ctrl := rfl
@[simp] theorem State.setContexts_chan (s : State) (x : ContextTable) : (s.setContexts x).chan = s.chan := rfl
@[simp] theorem State.setContexts_line (s : State) (x : ContextTable) : (s.setContexts x).line = s.line := rfl
@[simp] theorem State.setContexts_peers (s : State) (x : ContextTable) : (s.setContexts x).peers = s.peers := rfl
@[simp] theorem State.setContexts_sources (s : State) (x : ContextTable) : (s.setContexts x).sources = s.sources := rfl
@[simp] theorem State.setContexts_contexts (s : State) (x : ContextTable) : (s.setContexts x).contexts = x := rfl
@[simp] theorem State.setContexts_trip (s : State) (x : ContextTable) : (s.setContexts x).trip = s.trip := rfl
@[simp] theorem State.setContexts_port (s : State) (x : ContextTable) : (s.setContexts x).port = s.port := rfl
@[simp] theorem State.setContexts_choices (s : State) (x : ContextTable) : (s.setContexts x).choices = s.choices := rfl
@[simp] theorem State.setContexts_setContexts (s : State) (x y : ContextTable) : (s.setContexts x).setContexts y = s.setContexts y := rfl

/-! ### setTrip -/

@[simp] theorem State.setTrip_pending (s : State) (x : TripUnit) : (s.setTrip x).pending = s.pending := rfl
@[simp] theorem State.setTrip_pins (s : State) (x : TripUnit) : (s.setTrip x).pins = s.pins := rfl
@[simp] theorem State.setTrip_ctrl (s : State) (x : TripUnit) : (s.setTrip x).ctrl = s.ctrl := rfl
@[simp] theorem State.setTrip_chan (s : State) (x : TripUnit) : (s.setTrip x).chan = s.chan := rfl
@[simp] theorem State.setTrip_line (s : State) (x : TripUnit) : (s.setTrip x).line = s.line := rfl
@[simp] theorem State.setTrip_peers (s : State) (x : TripUnit) : (s.setTrip x).peers = s.peers := rfl
@[simp] theorem State.setTrip_sources (s : State) (x : TripUnit) : (s.setTrip x).sources = s.sources := rfl
@[simp] theorem State.setTrip_contexts (s : State) (x : TripUnit) : (s.setTrip x).contexts = s.contexts := rfl
@[simp] theorem State.setTrip_trip (s : State) (x : TripUnit) : (s.setTrip x).trip = x := rfl
@[simp] theorem State.setTrip_port (s : State) (x : TripUnit) : (s.setTrip x).port = s.port := rfl
@[simp] theorem State.setTrip_choices (s : State) (x : TripUnit) : (s.setTrip x).choices = s.choices := rfl
@[simp] theorem State.setTrip_setTrip (s : State) (x y : TripUnit) : (s.setTrip x).setTrip y = s.setTrip y := rfl

/-! ### setPort -/

@[simp] theorem State.setPort_pending (s : State) (x : SetupPort) : (s.setPort x).pending = s.pending := rfl
@[simp] theorem State.setPort_pins (s : State) (x : SetupPort) : (s.setPort x).pins = s.pins := rfl
@[simp] theorem State.setPort_ctrl (s : State) (x : SetupPort) : (s.setPort x).ctrl = s.ctrl := rfl
@[simp] theorem State.setPort_chan (s : State) (x : SetupPort) : (s.setPort x).chan = s.chan := rfl
@[simp] theorem State.setPort_line (s : State) (x : SetupPort) : (s.setPort x).line = s.line := rfl
@[simp] theorem State.setPort_peers (s : State) (x : SetupPort) : (s.setPort x).peers = s.peers := rfl
@[simp] theorem State.setPort_sources (s : State) (x : SetupPort) : (s.setPort x).sources = s.sources := rfl
@[simp] theorem State.setPort_contexts (s : State) (x : SetupPort) : (s.setPort x).contexts = s.contexts := rfl
@[simp] theorem State.setPort_trip (s : State) (x : SetupPort) : (s.setPort x).trip = s.trip := rfl
@[simp] theorem State.setPort_port (s : State) (x : SetupPort) : (s.setPort x).port = x := rfl
@[simp] theorem State.setPort_choices (s : State) (x : SetupPort) : (s.setPort x).choices = s.choices := rfl
@[simp] theorem State.setPort_setPort (s : State) (x y : SetupPort) : (s.setPort x).setPort y = s.setPort y := rfl

/-! ### setChoices -/

@[simp] theorem State.setChoices_pending (s : State) (x : Nat) : (s.setChoices x).pending = s.pending := rfl
@[simp] theorem State.setChoices_pins (s : State) (x : Nat) : (s.setChoices x).pins = s.pins := rfl
@[simp] theorem State.setChoices_ctrl (s : State) (x : Nat) : (s.setChoices x).ctrl = s.ctrl := rfl
@[simp] theorem State.setChoices_chan (s : State) (x : Nat) : (s.setChoices x).chan = s.chan := rfl
@[simp] theorem State.setChoices_line (s : State) (x : Nat) : (s.setChoices x).line = s.line := rfl
@[simp] theorem State.setChoices_peers (s : State) (x : Nat) : (s.setChoices x).peers = s.peers := rfl
@[simp] theorem State.setChoices_sources (s : State) (x : Nat) : (s.setChoices x).sources = s.sources := rfl
@[simp] theorem State.setChoices_contexts (s : State) (x : Nat) : (s.setChoices x).contexts = s.contexts := rfl
@[simp] theorem State.setChoices_trip (s : State) (x : Nat) : (s.setChoices x).trip = s.trip := rfl
@[simp] theorem State.setChoices_port (s : State) (x : Nat) : (s.setChoices x).port = s.port := rfl
@[simp] theorem State.setChoices_choices (s : State) (x : Nat) : (s.setChoices x).choices = x := rfl
@[simp] theorem State.setChoices_setChoices (s : State) (x y : Nat) : (s.setChoices x).setChoices y = s.setChoices y := rfl

end Sys2Proof.Machine
end

