-- ==== Sys2Proof/Laws/Ops.lean ====
section
/-! SUPPORT. Laws/Ops.lean: for each shared operation, what it changes and what it leaves: tables, flags, evaluations, updates
of the verdict table, insertions, the passing of time, answers. -/

namespace Sys2Proof.Machine

/-! ### Tables -/

theorem setAt_getElem {α : Type} {n : Nat} (v : Vector α n) (i j : Fin n) (x : α) :
    (setAt v i x)[j] = if j = i then x else v[j] := by
  rcases eq_or_ne j i with h | h
  · subst h
    simp [setAt]
  · have h' : i.val ≠ j.val := fun e => h (Fin.ext e.symm)
    simp [setAt, h, h']

/-- The entry replaced, in the form `simp` puts an index in. -/
@[simp] theorem setAt_getElem_self {α : Type} {n : Nat} (v : Vector α n) (i : Fin n) (x : α) :
    (setAt v i x)[i.val] = x := by simp [setAt]

theorem setAt_getElem_ne {α : Type} {n : Nat} (v : Vector α n) (i j : Fin n) (x : α) (h : j ≠ i) :
    (setAt v i x)[j] = v[j] := by rw [setAt_getElem, if_neg h]

@[simp] theorem mapTable_getElem {α β : Type} {n : Nat} (f : α → β) (v : Vector α n) (i : Fin n) :
    (mapTable f v)[i.val] = f v[i.val] := by simp [mapTable]

@[simp] theorem emptyPoints_getElem (p : PointNo) : PointTable.empty[p.val] = none := by simp [PointTable.empty]

@[simp] theorem emptyContexts_getElem (p : PointNo) : ContextTable.empty[p.val] = none := by simp [ContextTable.empty]

/-! ### Bits of a byte -/

@[simp] theorem byteBits_length (b : Byte) : (byteBits b).length = 8 := rfl

/-- Eight edges that bring the bits of a byte bring the byte (R174). -/
theorem foldl_shiftIn_byteBits : ∀ b : Byte, (byteBits b).foldl shiftIn 0#8 = b := by decide +kernel

/-- The samples of one byte complete it, and the samples after them go on with the next (R174). -/
theorem bytesOfBits_byteBits (b : Byte) (more : List Bool) : bytesOfBits (byteBits b ++ more) = b :: bytesOfBits more := by
  have h := foldl_shiftIn_byteBits b
  simp only [byteBits, List.range, List.range.loop, List.map_cons, List.map_nil] at h ⊢
  simp only [List.cons_append, List.nil_append, bytesOfBits, h]

/-- Fewer than eight samples complete no byte (R176). -/
theorem bytesOfBits_short (l : List Bool) (h : l.length < 8) : bytesOfBits l = [] := by
  unfold bytesOfBits
  split
  · simp only [List.length_cons] at h
    omega
  · rfl

/-! ### Flags -/

@[simp] theorem setFlagIf_true (f : EventFlag) (s : State) : setFlagIf true f s = setFlag f s := rfl
@[simp] theorem setFlagIf_false (f : EventFlag) (s : State) : setFlagIf false f s = s := rfl

/-- What the vote engine and the trip output unit leave alone when points are evaluated: every block but the contexts, the
groups' sets and outputs, the first-out records, the flags (which only grow) and the cursor. -/
structure VoteFrame (s t : State) : Prop where
  pending : t.pending = s.pending
  pins : t.pins = s.pins
  ctrl : t.ctrl = s.ctrl
  chan : t.chan = s.chan
  line : t.line = s.line
  peers : t.peers = s.peers
  sources : t.sources = s.sources
  choices : t.choices = s.choices
  press : t.trip.press = s.trip.press
  failAction : ∀ g : GroupNo, t.trip.groups[g].failAction = s.trip.groups[g].failAction
  startState : ∀ g : GroupNo, t.trip.groups[g].startState = s.trip.groups[g].startState
  transaction : t.port.transaction = s.port.transaction
  answer : t.port.answer = s.port.answer
  staging : t.port.staging = s.port.staging
  mask : t.port.mask = s.port.mask
  flags : s.port.flags &&& t.port.flags = s.port.flags

namespace VoteFrame

theorem refl (s : State) : VoteFrame s s := by constructor <;> simp

theorem trans {s t u : State} (a : VoteFrame s t) (b : VoteFrame t u) : VoteFrame s u where
  pending := b.pending.trans a.pending
  pins := b.pins.trans a.pins
  ctrl := b.ctrl.trans a.ctrl
  chan := b.chan.trans a.chan
  line := b.line.trans a.line
  peers := b.peers.trans a.peers
  sources := b.sources.trans a.sources
  choices := b.choices.trans a.choices
  press := b.press.trans a.press
  failAction g := (b.failAction g).trans (a.failAction g)
  startState g := (b.startState g).trans (a.startState g)
  transaction := b.transaction.trans a.transaction
  answer := b.answer.trans a.answer
  staging := b.staging.trans a.staging
  mask := b.mask.trans a.mask
  flags := by
    have ha := a.flags
    have hb := b.flags
    rw [← ha, BitVec.and_assoc, hb]

end VoteFrame

theorem and_or_self (a b : BitVec 7) : a &&& (a ||| b) = a := by
  ext i
  simp only [BitVec.getElem_and, BitVec.getElem_or]
  cases a[i] <;> simp

theorem setFlag_frame (f : EventFlag) (s : State) : VoteFrame s (setFlag f s) := by
  constructor <;> simp [setFlag, and_or_self]

theorem setFlagIf_frame (c : Bool) (f : EventFlag) (s : State) : VoteFrame s (setFlagIf c f s) := by
  cases c
  · exact VoteFrame.refl s
  · exact setFlag_frame f s

@[simp] theorem setFlag_contexts (f : EventFlag) (s : State) : (setFlag f s).contexts = s.contexts := rfl
@[simp] theorem setFlag_trip (f : EventFlag) (s : State) : (setFlag f s).trip = s.trip := rfl
@[simp] theorem setFlag_cursor (f : EventFlag) (s : State) : (setFlag f s).port.cursor = s.port.cursor := rfl
@[simp] theorem setFlagIf_contexts (c : Bool) (f : EventFlag) (s : State) : (setFlagIf c f s).contexts = s.contexts := by
  cases c <;> rfl
@[simp] theorem setFlagIf_trip (c : Bool) (f : EventFlag) (s : State) : (setFlagIf c f s).trip = s.trip := by
  cases c <;> rfl
@[simp] theorem setFlagIf_cursor (c : Bool) (f : EventFlag) (s : State) : (setFlagIf c f s).port.cursor = s.port.cursor := by
  cases c <;> rfl

/-! ### Reports, trip events and evaluations -/

theorem setGroupRecord_frame (g : GroupNo) (r : Group) (s : State)
    (hf : r.failAction = s.trip.groups[g].failAction) (hs : r.startState = s.trip.groups[g].startState) :
    VoteFrame s (setGroupRecord g r s) := by
  refine ⟨rfl, rfl, rfl, rfl, rfl, rfl, rfl, rfl, rfl, fun g' => ?_, fun g' => ?_, rfl, rfl, rfl, rfl, BitVec.and_self⟩ <;>
    simp only [setGroupRecord, State.setTrip_trip, setAt_getElem] <;> split <;> simp_all

theorem takeReport_frame (p : PointNo) (g : GroupNo) (after : PointState) (s : State) :
    VoteFrame s (takeReport p g after s) := by
  unfold takeReport
  dsimp only
  split
  · refine VoteFrame.trans ?_ (setFlagIf_frame _ _ _)
    exact setGroupRecord_frame g _ s rfl rfl
  · exact setGroupRecord_frame g _ s rfl rfl

@[simp] theorem takeReport_contexts (p : PointNo) (g : GroupNo) (after : PointState) (s : State) :
    (takeReport p g after s).contexts = s.contexts := by
  unfold takeReport setGroupRecord
  dsimp only
  split <;> simp

@[simp] theorem takeReport_firstOut (p : PointNo) (g : GroupNo) (after : PointState) (s : State) :
    (takeReport p g after s).trip.firstOut = s.trip.firstOut := by
  unfold takeReport setGroupRecord
  dsimp only
  split <;> simp

theorem setFirstOut_frame (g : GroupNo) (r : Option FirstOut) (s : State) : VoteFrame s (setFirstOut g r s) := by
  constructor <;> simp [setFirstOut]

theorem rewindCursor_frame (g : GroupNo) (s : State) : VoteFrame s (rewindCursor g s) := by
  unfold rewindCursor
  split
  · constructor <;> simp
  · exact VoteFrame.refl s

theorem captureFirstOut_frame (g : GroupNo) (r : FirstOut) (s : State) : VoteFrame s (captureFirstOut g r s) :=
  (setFirstOut_frame g _ s).trans (rewindCursor_frame g _)

@[simp] theorem rewindCursor_trip (g : GroupNo) (s : State) : (rewindCursor g s).trip = s.trip := by
  unfold rewindCursor; split <;> simp

@[simp] theorem rewindCursor_contexts (g : GroupNo) (s : State) : (rewindCursor g s).contexts = s.contexts := by
  unfold rewindCursor; split <;> simp

@[simp] theorem captureFirstOut_contexts (g : GroupNo) (r : FirstOut) (s : State) :
    (captureFirstOut g r s).contexts = s.contexts := by simp [captureFirstOut, setFirstOut]

theorem takeTripEvent_frame (p : PointNo) (r : PointRecord) (l : List Standing) (s : State) :
    VoteFrame s (takeTripEvent p r l s) := by
  unfold takeTripEvent
  split
  · split
    · exact (captureFirstOut_frame _ _ s).trans (setFlag_frame _ _)
    · exact setFirstOut_frame _ _ s
  · exact VoteFrame.refl s

@[simp] theorem takeTripEvent_contexts (p : PointNo) (r : PointRecord) (l : List Standing) (s : State) :
    (takeTripEvent p r l s).contexts = s.contexts := by
  unfold takeTripEvent
  split
  · split <;> simp [setFirstOut]
  · rfl

@[simp] theorem takeTripEvent_groups (p : PointNo) (r : PointRecord) (l : List Standing) (s : State) :
    (takeTripEvent p r l s).trip.groups = s.trip.groups := by
  unfold takeTripEvent
  split
  · split <;> simp [setFirstOut, captureFirstOut]
  · rfl

theorem settleEvaluation_frame (p : PointNo) (r : PointRecord) (c : PointContext) (why : Cause) (s : State) :
    VoteFrame s (settleEvaluation p r c why s) := by
  unfold settleEvaluation
  dsimp only
  refine VoteFrame.trans ?_ (setFlagIf_frame _ _ _)
  have h1 : ∀ c', VoteFrame s (s.setContexts c') := fun c' => by constructor <;> simp
  split <;> split
  · exact (h1 _).trans (takeTripEvent_frame _ _ _ _)
  · exact (h1 _).trans ((takeReport_frame _ _ _ _).trans (takeTripEvent_frame _ _ _ _))
  · exact h1 _
  · exact (h1 _).trans (takeReport_frame _ _ _ _)

/-- An evaluation changes the context of its own point alone. -/
theorem settleEvaluation_contexts (p : PointNo) (r : PointRecord) (c : PointContext) (why : Cause) (s : State) :
    (settleEvaluation p r c why s).contexts =
      setAt s.contexts p (some { c with state := (transition r c why).1, timer := (transition r c why).2 }) := by
  unfold settleEvaluation
  dsimp only
  rw [setFlagIf_contexts]
  split
  · rw [takeTripEvent_contexts]
    split <;> simp
  · split <;> simp

theorem evaluate_frame (p : PointNo) (why : Cause) (f : PointRecord → List Standing → List Standing) (s : State) :
    VoteFrame s (evaluate p why f s) := by
  unfold evaluate
  split
  · exact settleEvaluation_frame _ _ _ _ _
  · exact VoteFrame.refl s

theorem evaluateAsCounted_frame (p : PointNo) (why : Cause) (s : State) : VoteFrame s (evaluateAsCounted p why s) := by
  unfold evaluateAsCounted
  split
  · exact settleEvaluation_frame _ _ _ _ _
  · exact VoteFrame.refl s

/-- An evaluation leaves every other point's context as it was. -/
theorem evaluate_contexts_ne (p q : PointNo) (why : Cause) (f : PointRecord → List Standing → List Standing) (s : State)
    (h : q ≠ p) : (evaluate p why f s).contexts[q] = s.contexts[q] := by
  unfold evaluate
  split
  · rw [settleEvaluation_contexts, setAt_getElem_ne _ _ _ _ h]
  · rfl

theorem evaluateAsCounted_contexts_ne (p q : PointNo) (why : Cause) (s : State) (h : q ≠ p) :
    (evaluateAsCounted p why s).contexts[q] = s.contexts[q] := by
  unfold evaluateAsCounted
  split
  · rw [settleEvaluation_contexts, setAt_getElem_ne _ _ _ _ h]
  · rfl

theorem foldl_frame {α : Type} (f : State → α → State) (h : ∀ s a, VoteFrame s (f s a)) (l : List α) (s : State) :
    VoteFrame s (l.foldl f s) := by
  induction l generalizing s with
  | nil => exact VoteFrame.refl s
  | cons a l ih => exact (h s a).trans (ih _)

theorem takeNotice_frame (s : State) (n : Notice) : VoteFrame s (takeNotice s n) := evaluate_frame _ _ _ s

theorem evaluateAll_frame (s : State) : VoteFrame s (evaluateAll s) :=
  foldl_frame joinEntryPoint (fun s p => evaluate_frame p _ _ s) _ s

theorem takeClearMask_frame (m : PointMask) (s : State) : VoteFrame s (takeClearMask m s) := by
  unfold takeClearMask
  split
  · exact foldl_frame clearPoint (fun s p => evaluateAsCounted_frame p _ s) _ s
  · exact VoteFrame.refl s

theorem captureAtRunEntry_frame (s : State) (g : GroupNo) : VoteFrame s (captureAtRunEntry s g) := by
  unfold captureAtRunEntry
  split
  · exact captureFirstOut_frame _ _ s
  · exact VoteFrame.refl s

theorem runEntryOutputs_frame (s : State) : VoteFrame s (runEntryOutputs s) := by
  unfold runEntryOutputs
  dsimp only
  refine VoteFrame.trans ?_ (setFlagIf_frame _ _ _)
  refine VoteFrame.trans ?_ (setFlagIf_frame _ _ _)
  refine VoteFrame.trans ?_ (foldl_frame captureAtRunEntry captureAtRunEntry_frame _ _)
  constructor <;> simp [Group.atRunEntry]

/-! ### Updates of the verdict table -/

/-- What an update of the verdict table leaves alone, in every station state. -/
structure UpdateFrame (s t : State) : Prop where
  pending : t.pending = s.pending
  pins : t.pins = s.pins
  ctrl : t.ctrl = s.ctrl
  chan : t.chan = s.chan
  line : t.line = s.line
  press : t.trip.press = s.trip.press
  failAction : ∀ g : GroupNo, t.trip.groups[g].failAction = s.trip.groups[g].failAction
  startState : ∀ g : GroupNo, t.trip.groups[g].startState = s.trip.groups[g].startState
  transaction : t.port.transaction = s.port.transaction
  answer : t.port.answer = s.port.answer
  staging : t.port.staging = s.port.staging
  mask : t.port.mask = s.port.mask
  flags : s.port.flags &&& t.port.flags = s.port.flags

/-- An update writes its entries, puts the peer table in place, and touches no block but the vote's and the flags. -/
theorem applyUpdate_frame (ws : List Write) (after : Option PeerTable) (s : State) :
    UpdateFrame s (applyUpdate ws after s) ∧ (applyUpdate ws after s).peers = after ∧
      (applyUpdate ws after s).sources = s.sources.map (entryAfter s.ctrl.tick ws) := by
  unfold applyUpdate
  dsimp only
  split
  · have h := foldl_frame takeNotice takeNotice_frame
      (orderNotices (Config.noticeOrder s.choices)
        (noticesOf (updateChanges s.ctrl.settings.address s.ctrl.points s.peers after s.ctrl.tick ws s.sources)))
      (((s.setSources (s.sources.map (entryAfter s.ctrl.tick ws))).setPeers after).setChoices (s.choices + 1))
    exact ⟨⟨h.pending, h.pins, h.ctrl, h.chan, h.line, h.press, h.failAction, h.startState, h.transaction, h.answer, h.staging,
      h.mask, h.flags⟩, h.peers, h.sources⟩
  · refine ⟨?_, rfl, rfl⟩
    constructor <;> simp

/-- In a state that is neither JOIN nor RUN an update passes no notice (R36). -/
theorem applyUpdate_quiet (ws : List Write) (after : Option PeerTable) (s : State) (h : s.ctrl.station.voting = false) :
    applyUpdate ws after s = (s.setSources (s.sources.map (entryAfter s.ctrl.tick ws))).setPeers after := by
  simp [applyUpdate, h]

/-! ### The queue, time, and answers -/

/-- An insertion touches the queue alone. -/
theorem insertItem_eq (i : SendItem) (s : State) :
    insertItem i s =
      s.setLine { s.line with queue := if s.ctrl.station.voting then queueInsert i s.line.queue else s.line.queue } := by
  unfold insertItem
  split <;> rfl

@[simp] theorem insertItem_ctrl (i : SendItem) (s : State) : (insertItem i s).ctrl = s.ctrl := by rw [insertItem_eq]; rfl
@[simp] theorem insertItem_chan (i : SendItem) (s : State) : (insertItem i s).chan = s.chan := by rw [insertItem_eq]; rfl
@[simp] theorem insertItem_peers (i : SendItem) (s : State) : (insertItem i s).peers = s.peers := by rw [insertItem_eq]; rfl
@[simp] theorem insertItem_sources (i : SendItem) (s : State) : (insertItem i s).sources = s.sources := by
  rw [insertItem_eq]; rfl
@[simp] theorem insertItem_contexts (i : SendItem) (s : State) : (insertItem i s).contexts = s.contexts := by
  rw [insertItem_eq]; rfl
@[simp] theorem insertItem_trip (i : SendItem) (s : State) : (insertItem i s).trip = s.trip := by rw [insertItem_eq]; rfl
@[simp] theorem insertItem_port (i : SendItem) (s : State) : (insertItem i s).port = s.port := by rw [insertItem_eq]; rfl
@[simp] theorem insertItem_pins (i : SendItem) (s : State) : (insertItem i s).pins = s.pins := by rw [insertItem_eq]; rfl
@[simp] theorem insertItem_pending (i : SendItem) (s : State) : (insertItem i s).pending = s.pending := by
  rw [insertItem_eq]; rfl
@[simp] theorem insertItem_choices (i : SendItem) (s : State) : (insertItem i s).choices = s.choices := by
  rw [insertItem_eq]; rfl

@[simp] theorem elapse_pending (n : Nat) (s : State) : (elapse n s).pending = s.pending := rfl
@[simp] theorem elapse_pins (n : Nat) (s : State) : (elapse n s).pins = s.pins := rfl
@[simp] theorem elapse_line (n : Nat) (s : State) : (elapse n s).line = s.line := rfl
@[simp] theorem elapse_port (n : Nat) (s : State) : (elapse n s).port = s.port := rfl
@[simp] theorem elapse_sources (n : Nat) (s : State) : (elapse n s).sources = s.sources := rfl
@[simp] theorem elapse_choices (n : Nat) (s : State) : (elapse n s).choices = s.choices := rfl
@[simp] theorem elapse_station (n : Nat) (s : State) : (elapse n s).ctrl.station = s.ctrl.station := rfl
@[simp] theorem elapse_settings (n : Nat) (s : State) : (elapse n s).ctrl.settings = s.ctrl.settings := rfl
@[simp] theorem elapse_points (n : Nat) (s : State) : (elapse n s).ctrl.points = s.ctrl.points := rfl
@[simp] theorem elapse_counts (n : Nat) (s : State) : (elapse n s).ctrl.counts = s.ctrl.counts := rfl
@[simp] theorem elapse_digest (n : Nat) (s : State) : (elapse n s).ctrl.digest = s.ctrl.digest := rfl
@[simp] theorem elapse_groups (n : Nat) (s : State) : (elapse n s).trip.groups = s.trip.groups := rfl
@[simp] theorem elapse_firstOut (n : Nat) (s : State) : (elapse n s).trip.firstOut = s.trip.firstOut := rfl
@[simp] theorem elapse_channels (n : Nat) (s : State) : (elapse n s).chan.channels = s.chan.channels := rfl
@[simp] theorem elapse_profiles (n : Nat) (s : State) : (elapse n s).chan.profiles = s.chan.profiles := rfl
@[simp] theorem elapse_scan (n : Nat) (s : State) : (elapse n s).chan.scan = s.chan.scan := rfl

/-- A request is not taken in RESET, nor with no transaction collecting (R160, R174). -/
theorem takeRequest_idle (taken : StationState → Bool) (rule : State → Verdicted) (s : State)
    (h : s.ctrl.station = .reset ∨ s.port.transaction ≠ .collecting) : takeRequest taken rule s = s := by
  simp [takeRequest, h]

/-- In a state that takes it, a request is answered by its own rule (R177). -/
theorem takeRequest_taken (taken : StationState → Bool) (rule : State → Verdicted) (s : State)
    (hr : s.ctrl.station ≠ .reset) (hc : s.port.transaction = .collecting) (ht : taken s.ctrl.station = true) :
    takeRequest taken rule s = answerWith s (rule s) := by
  have h2 : ¬(s.ctrl.station = .validating ∧ taken .validating = false) := by
    rintro ⟨h, h'⟩
    rw [h] at ht
    simp [ht] at h'
  simp [takeRequest, hr, hc, ht, h2]

/-- In a state that does not take it, a request is answered BUSY or WRONG_STATE and does nothing else (R177). -/
theorem takeRequest_denied (taken : StationState → Bool) (rule : State → Verdicted) (s : State)
    (hr : s.ctrl.station ≠ .reset) (hc : s.port.transaction = .collecting) (ht : taken s.ctrl.station = false) :
    takeRequest taken rule s = giveAnswer [if s.ctrl.station = .validating then 3 else 1] s := by
  by_cases hv : s.ctrl.station = .validating
  · rw [hv] at ht
    simp [takeRequest, hc, hv, ht, answerWith, Denial.bytes]
  · simp [takeRequest, hr, hc, ht, hv, answerWith, Denial.bytes]

/-- Everything a request can do: nothing at all, an answer that is not OK and nothing else, or OK and its effect. -/
theorem takeRequest_cases (taken : StationState → Bool) (rule : State → Verdicted) (s : State) :
    takeRequest taken rule s = s ∨ (∃ d : Denial, takeRequest taken rule s = giveAnswer d.bytes s) ∨
      (taken s.ctrl.station = true ∧ ∃ results t, rule s = .ok (results, t) ∧
        takeRequest taken rule s = giveAnswer (0#8 :: results) t) := by
  by_cases hi : s.ctrl.station = .reset ∨ s.port.transaction ≠ .collecting
  · exact .inl (takeRequest_idle taken rule s hi)
  · obtain ⟨hr, hc⟩ := not_or.mp hi
    have hc := not_not.mp hc
    cases ht : taken s.ctrl.station
    · refine .inr (.inl ⟨if s.ctrl.station = .validating then .busy else .wrongState, ?_⟩)
      rw [takeRequest_denied taken rule s hr hc ht]
      split <;> rfl
    · rw [takeRequest_taken taken rule s hr hc ht]
      cases h : rule s with
      | error d => exact .inr (.inl ⟨d, rfl⟩)
      | ok x => exact .inr (.inr ⟨rfl, x.1, x.2, rfl, rfl⟩)

end Sys2Proof.Machine
end

