-- ==== Sys2Proof/Laws/Blocks.lean ====
section
/-! SUPPORT. Laws/Blocks.lean: what the operations of each block answer, case by case: the vote engine, the trip output unit, the
verdict table, the line controller. -/

namespace Sys2Proof.Machine

/-! ### The vote engine -/

@[simp] theorem recount_state (r : PointRecord) (l : List Standing) (c : PointContext) : (recount r l c).state = c.state := rfl
@[simp] theorem recount_timer (r : PointRecord) (l : List Standing) (c : PointContext) : (recount r l c).timer = c.timer := rfl
@[simp] theorem recount_standings (r : PointRecord) (l : List Standing) (c : PointContext) :
    (recount r l c).standings = l := rfl

/-- A recount depends on the standing list alone, so a second one replaces the first. -/
@[simp] theorem recount_recount (r : PointRecord) (l m : List Standing) (c : PointContext) :
    recount r m (recount r l c) = recount r m c := rfl

/-- An evaluation that makes no transition and refuses nothing writes the context and reports nothing. -/
theorem settleEvaluation_still (p : PointNo) (r : PointRecord) (c : PointContext) (why : Cause) (s : State)
    (h : (transition r c why).1 = c.state) (hr : clearRefused r c why = false) :
    settleEvaluation p r c why s = s.setContexts (setAt s.contexts p (some { c with timer := (transition r c why).2 })) := by
  have he : isTripEvent c.state c.state = false := by cases c.state <;> rfl
  unfold settleEvaluation
  simp only [h, hr, he, if_true, setFlagIf_false, Bool.false_eq_true, if_false]

/-- Evaluating a point with a record and a context. -/
theorem evaluate_some {p : PointNo} {r : PointRecord} {c : PointContext} {s : State} (why : Cause)
    (f : PointRecord → List Standing → List Standing) (hr : s.ctrl.points[p] = some r) (hc : s.contexts[p] = some c) :
    evaluate p why f s = settleEvaluation p r (recount r (f r c.standings) c) why s := by
  simp only [evaluate, hr, hc]

theorem evaluateAsCounted_some {p : PointNo} {r : PointRecord} {c : PointContext} {s : State} (why : Cause)
    (hr : s.ctrl.points[p] = some r) (hc : s.contexts[p] = some c) :
    evaluateAsCounted p why s = settleEvaluation p r c why s := by
  simp only [evaluateAsCounted, hr, hc]

/-! ### The trip output unit -/

theorem mem_insertPoint (p q : PointNo) (l : List PointNo) : q ∈ insertPoint p l ↔ q = p ∨ q ∈ l := by
  induction l with
  | nil => simp [insertPoint]
  | cons a l ih =>
    unfold insertPoint
    split
    · simp
    · split
      · rename_i h
        subst h
        simp
      · simp only [List.mem_cons, ih]
        tauto

/-- Outside RUN a report reaches the asserting set alone (R67, R68). -/
theorem takeReport_outsideRun (p : PointNo) (g : GroupNo) (after : PointState) (s : State) (h : s.ctrl.station ≠ .run) :
    takeReport p g after s = setGroupRecord g
      { s.trip.groups[g] with asserting := assertingAfter p after s.trip.groups[g].asserting } s := by
  simp only [takeReport, if_neg h]

/-- Outside RUN a trip event is discarded (R79). -/
theorem takeTripEvent_outsideRun (p : PointNo) (r : PointRecord) (l : List Standing) (s : State)
    (h : s.ctrl.station ≠ .run) : takeTripEvent p r l s = s := by simp only [takeTripEvent, if_neg h]

/-- In RUN a trip event raises the count of a captured record (R78). -/
theorem takeTripEvent_captured {p : PointNo} {r : PointRecord} {l : List Standing} {s : State} {f : FirstOut}
    (h : s.ctrl.station = .run) (hf : s.trip.firstOut[r.group] = some f) :
    takeTripEvent p r l s =
      setFirstOut r.group (some { f with subsequent := min (f.subsequent + 1) Config.subsequentLimit }) s := by
  simp only [takeTripEvent, if_pos h, hf]

/-- In RUN a trip event captures an EMPTY record (R78). -/
theorem takeTripEvent_empty {p : PointNo} {r : PointRecord} {l : List Standing} {s : State}
    (h : s.ctrl.station = .run) (hf : s.trip.firstOut[r.group] = none) :
    takeTripEvent p r l s = setFlag .firstOut (captureFirstOut r.group
      { point := p, tick := s.ctrl.tick, snapshot := snapshotOf r l, subsequent := 0, cause := .tripEvent } s) := by
  simp only [takeTripEvent, if_pos h, hf]

/-- A clear mask outside RUN has no effect (R72). -/
theorem takeClearMask_outsideRun (m : PointMask) (s : State) (h : s.ctrl.station ≠ .run) : takeClearMask m s = s := by
  simp only [takeClearMask, if_neg h]

/-! ### The verdict table -/

@[simp] theorem lastWrite_nil (k : SourceKey) : lastWrite [] k = none := rfl

@[simp] theorem lastWrite_single (w : Write) (k : SourceKey) :
    lastWrite [w] k = if w.key = k then some w.verdict else none := by
  unfold lastWrite
  by_cases h : w.key = k
  · simp [h]
  · simp [h, beq_eq_false_iff_ne.mpr h]

@[simp] theorem entryAfter_nil (tick : Tick) (e : SourceEntry) : entryAfter tick [] e = e := rfl

@[simp] theorem entryAfter_key (tick : Tick) (ws : List Write) (e : SourceEntry) : (entryAfter tick ws e).key = e.key := by
  unfold entryAfter
  split
  · rfl
  · split <;> rfl

@[simp] theorem entryAfter_origin (tick : Tick) (ws : List Write) (e : SourceEntry) :
    (entryAfter tick ws e).origin = e.origin := by
  unfold entryAfter
  split
  · rfl
  · split <;> rfl

@[simp] theorem entryAfter_refs (tick : Tick) (ws : List Write) (e : SourceEntry) : (entryAfter tick ws e).refs = e.refs := by
  unfold entryAfter
  split
  · rfl
  · split <;> rfl

/-- A write that an update makes to a key is the verdict the entry holds after it. -/
theorem entryAfter_verdict {tick : Tick} {ws : List Write} {e : SourceEntry} {v : Verdict}
    (h : lastWrite ws e.key = some v) : (entryAfter tick ws e).verdict = v := by
  unfold entryAfter
  rw [h]
  dsimp only
  split
  · rename_i hv
    exact hv.symm
  · rfl

/-! ### The line controller -/

theorem startFrame_none {s : State} (h : buildFrame s = none) : startFrame s = s := by simp only [startFrame, h]

theorem startFrame_some {s : State} {f : BuiltFrame} (h : buildFrame s = some f) :
    startFrame s = s.setLine { s.line with
      queue := f.rest
      inFlight := some { kind := f.kind, sequence := s.line.sequence, body := f.body, items := f.items }
      sequence := s.line.sequence + 1
      slots := .stopped
      receiver := .collecting } := by simp only [startFrame, h]

/-- A frame is built exactly when something is queued (R134). -/
theorem buildFrame_isSome (s : State) : (buildFrame s).isSome = !s.line.queue.isEmpty := by
  unfold buildFrame
  split <;> simp_all

/-- A fault report is taken in LISTEN, JOIN and RUN alone (R171). -/
theorem enterFaulted_offline (cause : FaultCause) (s : State) (h : s.ctrl.station.online = false) : enterFaulted cause s = s := by
  simp [enterFaulted, h]

/-- What the line controller holds after a valid frame. -/
@[simp] theorem afterFrame_eq (source : Address) (l : LineUnit) :
    l.afterFrame source = { l with lastSender := some source, slots := .stopped, receiver := .waiting false } := rfl

/-- Reception is ignored outside LISTEN, JOIN and RUN, while self transmits, and by a receiver with no frame in collection
(R129, R145, R158). -/
theorem acceptFrame_ignored (source : Address) (rest : State → State) (s : State)
    (h : ¬(s.ctrl.station.online = true ∧ s.line.inFlight = none ∧ s.line.receiver.collects = true)) : acceptFrame source rest s = s := by
  unfold acceptFrame
  exact if_neg h

/-- A valid frame of another station sets L and goes on (R147). -/
theorem acceptFrame_peer {source : Address} {rest : State → State} {s : State}
    (h : s.ctrl.station.online = true ∧ s.line.inFlight = none ∧ s.line.receiver.collects = true) (hs : source ≠ s.ctrl.settings.address) :
    acceptFrame source rest s =
      rest (s.setLine { s.line with lastSender := some source, slots := .stopped, receiver := .waiting false }) := by
  unfold acceptFrame
  rw [if_pos h]
  exact if_neg hs

/-- A valid frame of the own address puts the station in FAULTED (R155). -/
theorem acceptFrame_own {source : Address} {rest : State → State} {s : State}
    (h : s.ctrl.station.online = true ∧ s.line.inFlight = none ∧ s.line.receiver.collects = true) (hs : source = s.ctrl.settings.address) :
    acceptFrame source rest s = enterFaulted .duplicateAddress
      (s.setLine { s.line with lastSender := some source, slots := .stopped, receiver := .waiting false }) := by
  unfold acceptFrame
  rw [if_pos h]
  exact if_pos hs

/-- Everything an abandoned frame can do: nothing, or the slot count stopped and the receiver moved on (R146). -/
theorem abandonFrame_cases (reason : BrokenReason) (s : State) :
    abandonFrame reason s = s ∨ ∃ r, s.line.receiver.afterBroken reason = some r ∧
      abandonFrame reason s = s.setLine { s.line with receiver := r, slots := .stopped } := by
  unfold abandonFrame
  split
  · split
    · rename_i r hr
      exact .inr ⟨r, hr, rfl⟩
    · exact .inl rfl
  · exact .inl rfl

/-- A receiver with a frame in collection has seen a dominant run begin (R145). -/
theorem hasOpened_of_collects {r : Receiver} (h : r.collects = true) : r.hasOpened = true := by
  cases r <;> first | rfl | cases h

/-- A report of the own address is taken with an own frame in flight as without one, and by a receiver that waits again as by one
that collects (R155, R173). -/
theorem reportDuplicate_taken {s : State} (h : s.ctrl.station.online = true ∧ s.line.receiver.hasOpened = true) :
    reportDuplicate s = enterFaulted .duplicateAddress (s.setLine (s.line.afterFrame s.ctrl.settings.address)) := by
  unfold reportDuplicate
  exact if_pos h

/-- With no dominant run begun since LISTEN entry there is no own address to report (R145, R155). -/
theorem reportDuplicate_ignored {s : State} (h : ¬(s.ctrl.station.online = true ∧ s.line.receiver.hasOpened = true)) :
    reportDuplicate s = s := by
  unfold reportDuplicate
  exact if_neg h

/-- A frame of a known kind from a peer acts through the sender's entry as it stood before the frame (R106). -/
theorem deliverFrame_peer {source : Address} {effect : PeerEntry → State → State} {s : State} {v : PeerTable}
    (h : s.ctrl.station.online = true ∧ s.line.inFlight = none ∧ s.line.receiver.collects = true) (hs : source ≠ s.ctrl.settings.address)
    (hv : s.peers = some v) :
    deliverFrame source effect s = effect v[source]
      (s.setLine { s.line with lastSender := some source, slots := .stopped, receiver := .waiting false }) := by
  unfold deliverFrame
  rw [acceptFrame_peer h hs]
  simp [peerAt, hv]

end Sys2Proof.Machine
end

