-- ==== Sys2Proof/Laws/Operands.lean ====
section
/-! SUPPORT. Laws/Operands.lean: each operand reader reads back what the tables of section 11.4 write, and refuses the rest. -/

namespace Sys2Proof.Machine

theorem indexBelow_some {n k : Nat} (h : k < n) : indexBelow n k = some ⟨k, h⟩ := by simp [indexBelow, h]

theorem indexBelow_none {n k : Nat} (h : n ≤ k) : indexBelow n k = none := by simp [indexBelow, Nat.not_lt.mpr h]

@[simp] theorem toAddress_natByte (a : Address) : toAddress (natByte a.val) = some a := by revert a; decide
@[simp] theorem toChannel_natByte (c : Channel) : toChannel (natByte c.val) = some c := by revert c; decide
@[simp] theorem toProfile_natByte (p : ProfileNo) : toProfile (natByte p.val) = some p := by revert p; decide
@[simp] theorem toPoint_natByte (p : PointNo) : toPoint (natByte p.val) = some p := by revert p; decide
@[simp] theorem toGroup_natByte (g : GroupNo) : toGroup (natByte g.val) = some g := by revert g; decide
@[simp] theorem toYesNo_boolByte (b : Bool) : toYesNo (boolByte b) = some b := by cases b <;> rfl
@[simp] theorem toRate_code (r : LineRate) : toRate r.code = some r := by cases r <;> rfl
@[simp] theorem toPolicy_code (p : Policy) : toPolicy p.code = some p := by cases p <;> rfl
@[simp] theorem toDirections_byte (m : BitVec 3) : toDirections (m.setWidth 8) = some m := by revert m; decide

theorem toAddress_none {b : Byte} (h : 15 < b.toNat) : toAddress b = none := indexBelow_none h
theorem toChannel_none {b : Byte} (h : 7 < b.toNat) : toChannel b = none := indexBelow_none h
theorem toProfile_none {b : Byte} (h : 7 < b.toNat) : toProfile b = none := indexBelow_none h
theorem toPoint_none {b : Byte} (h : 23 < b.toNat) : toPoint b = none := indexBelow_none h
theorem toGroup_none {b : Byte} (h : 3 < b.toNat) : toGroup b = none := indexBelow_none h

theorem toYesNo_none {b : Byte} (h : 1 < b.toNat) : toYesNo b = none := by
  unfold toYesNo
  split <;> first | omega | rfl

theorem toRate_none {b : Byte} (h : 3 < b.toNat) : toRate b = none := by
  unfold toRate
  split <;> first | omega | rfl

theorem toPolicy_none {b : Byte} (h : 2 < b.toNat) : toPolicy b = none := by
  unfold toPolicy
  split <;> first | omega | rfl

theorem toDirections_none {b : Byte} (h : 7 < b.toNat) : toDirections b = none := by
  simp [toDirections, show ¬b.toNat < 8 by omega]

end Sys2Proof.Machine
end

