-- ==== Sys2Proof/Laws/PerInstr.lean ====
section
/-! SUPPORT. Laws/PerInstr.lean: what holds of every command as syntax, one lemma for each constructor. -/

namespace Sys2Proof.Laws

open Sys2Proof

/-- A command comes to the block in one way at most: as the bytes of a request on the setup port or as the characters of a frame
on the vote line, never both. -/
def OneWay.Statement (i : Instr) : Prop := encodeRequest i = none ∨ encodeFrame i = none

theorem OneWay.powerOn : OneWay.Statement .powerOn := .inl rfl

theorem OneWay.rstLow (micros : Nat) : OneWay.Statement (.rstLow micros) := .inl rfl

theorem OneWay.rstHigh : OneWay.Statement .rstHigh := .inl rfl

theorem OneWay.startupComplete : OneWay.Statement .startupComplete := .inl rfl

theorem OneWay.csFalling : OneWay.Statement .csFalling := .inl rfl

theorem OneWay.csRising : OneWay.Statement .csRising := .inl rfl

theorem OneWay.unknownRequest (code : Byte) : OneWay.Statement (.unknownRequest code) := .inr rfl

theorem OneWay.setStation (address rate beat scan : Byte) : OneWay.Statement (.setStation address rate beat scan) := .inr rfl

theorem OneWay.setProfile (profile : Byte) (faultLow low high faultHigh : Half) (hysteresis persistence sense : Byte) :
    OneWay.Statement (.setProfile profile faultLow low high faultHigh hysteresis persistence sense) := .inr rfl

theorem OneWay.setChannel (channel enabled profile : Byte) : OneWay.Statement (.setChannel channel enabled profile) := .inr rfl

theorem OneWay.setGroup (group failAction startState : Byte) : OneWay.Statement (.setGroup group failAction startState) := .inr rfl

theorem OneWay.stageBegin (point : Byte) : OneWay.Statement (.stageBegin point) := .inr rfl

theorem OneWay.stagePoint (quorum mask policy latched group : Byte) (confirm release : Half) :
    OneWay.Statement (.stagePoint quorum mask policy latched group confirm release) := .inr rfl

theorem OneWay.stageAdd (station channel : Byte) : OneWay.Statement (.stageAdd station channel) := .inr rfl

theorem OneWay.commitPoint : OneWay.Statement .commitPoint := .inr rfl

theorem OneWay.dropPoint (point : Byte) : OneWay.Statement (.dropPoint point) := .inr rfl

theorem OneWay.start : OneWay.Statement .start := .inr rfl

theorem OneWay.validationEnd (lrxDominant : Bool) : OneWay.Statement (.validationEnd lrxDominant) := .inl rfl

theorem OneWay.readStatus : OneWay.Statement .readStatus := .inr rfl

theorem OneWay.readPoint (point : Byte) : OneWay.Statement (.readPoint point) := .inr rfl

theorem OneWay.readPointRecord (point index : Byte) : OneWay.Statement (.readPointRecord point index) := .inr rfl

theorem OneWay.readSource (index : Byte) : OneWay.Statement (.readSource index) := .inr rfl

theorem OneWay.readPeer (address : Byte) : OneWay.Statement (.readPeer address) := .inr rfl

theorem OneWay.readChannel (channel : Byte) : OneWay.Statement (.readChannel channel) := .inr rfl

theorem OneWay.readFirstOut (group : Byte) : OneWay.Statement (.readFirstOut group) := .inr rfl

theorem OneWay.readEvents : OneWay.Statement .readEvents := .inr rfl

theorem OneWay.setEventMask (mask : Byte) : OneWay.Statement (.setEventMask mask) := .inr rfl

theorem OneWay.ackFirstOut (group : Byte) : OneWay.Statement (.ackFirstOut group) := .inr rfl

theorem OneWay.clearPoints (mask : PointMask) (scope : Byte) : OneWay.Statement (.clearPoints mask scope) := .inr rfl

theorem OneWay.restart : OneWay.Statement .restart := .inr rfl

theorem OneWay.clrFalling : OneWay.Statement .clrFalling := .inl rfl

theorem OneWay.clrRising : OneWay.Statement .clrRising := .inl rfl

theorem OneWay.clrQualified : OneWay.Statement .clrQualified := .inl rfl

theorem OneWay.listenPeriodExpiry : OneWay.Statement .listenPeriodExpiry := .inl rfl

theorem OneWay.settlePeriodExpiry : OneWay.Statement .settlePeriodExpiry := .inl rfl

theorem OneWay.beatTimerExpiry : OneWay.Statement .beatTimerExpiry := .inl rfl

theorem OneWay.confirmTimerExpiry (point : PointNo) : OneWay.Statement (.confirmTimerExpiry point) := .inl rfl

theorem OneWay.releaseTimerExpiry (point : PointNo) : OneWay.Statement (.releaseTimerExpiry point) := .inl rfl

theorem OneWay.silenceTimerExpiry (peer : Address) : OneWay.Statement (.silenceTimerExpiry peer) := .inl rfl

theorem OneWay.healTimerExpiry (peer : Address) : OneWay.Statement (.healTimerExpiry peer) := .inl rfl

theorem OneWay.scanStart : OneWay.Statement .scanStart := .inl rfl

theorem OneWay.conversionComplete (voltage : Int) : OneWay.Statement (.conversionComplete voltage) := .inl rfl

theorem OneWay.slotStart : OneWay.Statement .slotStart := .inl rfl

theorem OneWay.frameComplete : OneWay.Statement .frameComplete := .inl rfl

theorem OneWay.abort : OneWay.Statement .abort := .inl rfl

theorem OneWay.receiveJoin (source : Address) (sequence : Byte) (digest : Half) (beat channels : Byte) :
    OneWay.Statement (.receiveJoin source sequence digest beat channels) := .inl rfl

theorem OneWay.receiveBeat (source : Address) (sequence : Byte) (digest : Half) (verdicts : Vector Byte 8) :
    OneWay.Statement (.receiveBeat source sequence digest verdicts) := .inl rfl

theorem OneWay.receiveChange (source : Address) (sequence : Byte) (entries : List Byte) :
    OneWay.Statement (.receiveChange source sequence entries) := .inl rfl

theorem OneWay.receiveProbe (source : Address) (sequence : Byte) (targets : List Byte) :
    OneWay.Statement (.receiveProbe source sequence targets) := .inl rfl

theorem OneWay.receiveClear (source : Address) (sequence : Byte) (mask : PointMask) :
    OneWay.Statement (.receiveClear source sequence mask) := .inl rfl

theorem OneWay.receiveUnknownKind (source : Address) : OneWay.Statement (.receiveUnknownKind source) := .inl rfl

theorem OneWay.duplicateAddress : OneWay.Statement .duplicateAddress := .inl rfl

theorem OneWay.brokenFrame (reason : BrokenReason) : OneWay.Statement (.brokenFrame reason) := .inl rfl

theorem OneWay.characterGapTimeout : OneWay.Statement .characterGapTimeout := .inl rfl

theorem OneWay.lineActivity : OneWay.Statement .lineActivity := .inl rfl

end Sys2Proof.Laws
end

