-- ==== Sys2Proof/Tests/Slice0.lean ====
section
/-! SUPPORT. Tests/Slice0.lean: ill-formed commands refused by WellFormed, one step of each command against the manual, the bytes
of chapter 11, and for each statement with hypotheses a state that meets them. -/

namespace Sys2Proof.Tests

set_option Elab.async false

open Sys2Proof Sys2Proof.Machine

/-! ### WellFormed: each check refuses an ill-formed command -/

theorem test_wellFormed_knownCode : (Instr.unknownRequest 0x10).wellFormed = false := by decide
theorem test_wellFormed_unknownCode : (Instr.unknownRequest 0x40).wellFormed = true := by decide
theorem test_wellFormed_emptyChange : (Instr.receiveChange 1 0 []).wellFormed = false := by decide
theorem test_wellFormed_longChange : (Instr.receiveChange 1 0 (List.replicate 9 0)).wellFormed = false := by decide
theorem test_wellFormed_fullChange : (Instr.receiveChange 1 0 (List.replicate 8 0)).wellFormed = true := by decide
theorem test_wellFormed_emptyProbe : (Instr.receiveProbe 1 0 []).wellFormed = false := by decide
theorem test_wellFormed_longProbe : (Instr.receiveProbe 1 0 [1, 2, 3, 4, 5]).wellFormed = false := by decide
theorem test_wellFormed_noPulse : (Instr.rstLow 0).wellFormed = false := by decide

/-! ### Small states -/

/-- A station in a state, RST and CLR high, CS low, a transaction collecting, every other item as after power-on. -/
def serving (st : StationState) : State :=
  ((State.reset.setPins { rstLow := false, csLow := true, clrLow := false }).setCtrl
    { State.reset.ctrl with station := st }).setPort { State.reset.port with transaction := .collecting }

/-- A latched FAILTRIP point of group 1 over sensor (0, 2) and sensor (1, 5). -/
def latchedPoint : PointRecord :=
  { quorum := 1, mask := 2, policy := .failtrip, latched := true, contributors := [⟨0, 2⟩, ⟨1, 5⟩], group := 1, confirm := 500,
    release := 0 }

/-- A DEGRADE point of group 1 over sensor (1, 5) alone, not latched. -/
def plainPoint : PointRecord :=
  { quorum := 1, mask := 3, policy := .degrade, latched := false, contributors := [⟨1, 5⟩], group := 1, confirm := 0,
    release := 2000 }

/-- Points 3 and 23. -/
def twoPoints : PointTable := setAt (setAt PointTable.empty 3 (some latchedPoint)) 23 (some plainPoint)

/-- A valid window (section 5.10). -/
def window : Profile :=
  { faultLow := 100, low := 800, high := 3000, faultHigh := 3900, hysteresis := 50, persistence := 3, sense := .outside }

/-- A serving station 0 in a state, with the two points, and channel 2 enabled with the window. -/
def loaded (st : StationState) : State :=
  ((serving st).setCtrl { (serving st).ctrl with points := twoPoints, counts := countTable twoPoints }).setChan
    { (serving st).chan with
      channels := setAt (serving st).chan.channels 2 { ChannelRecord.powerOn with enabled := true, verdict := .unsettled }
      profiles := setAt (serving st).chan.profiles 0 window }

/-- The station after a START that passes. -/
def listening : State := enterListen false (loaded .validating)

/-- The station after the listen period. -/
def joining : State := enterJoin listening

/-- The station in RUN. -/
def running : State := enterRun (joining.setLine { joining.line with queue := [] })

/-- The state after a command. -/
def after (i : Instr) (s : State) : State :=
  match exec i s with
  | .next t => t
  | .fault _ => s
  | .refused _ => s

/-- A state whose receiver times a dominant run that began while it waited. -/
def hearing (s : State) : State := s.setLine { s.line with receiver := .timing false }

/-- The same state with the peer table's entry for station 1 in a membership state, sequence 7 expected. -/
def withPeerState (p : PeerState) (s : State) : State :=
  let e : PeerEntry :=
    { state := p, digest := none, channels := none, expected := some 7, lastHeard := some 0, silence := some 300,
      heal := if p = .gapped then some 100 else none }
  s.setPeers (withPeer 1 e s.peers)

/-- The state of a point's context. -/
def pointState (s : State) (p : PointNo) : Option PointState := s.contexts[p].map (·.state)

/-- The state of a peer entry. -/
def peerState (s : State) (a : Address) : Option PeerState := s.peers.map fun v => v[a].state

/-- Point 3 in a state, with its standings. -/
def withPoint (p : PointState) (l : List Standing) (t : Option PointTimer) (s : State) : State :=
  s.setContexts (setAt s.contexts 3 (some (recount latchedPoint l { clearContext latchedPoint l with state := p, timer := t })))

/-- Point 3 HELD in RUN, its group asserted by it alone. -/
def holding : State :=
  (withPoint .held [.normal, .normal] none running).setTrip { running.trip with
    groups := setAt running.trip.groups 1 { Group.powerOn with asserting := [3], output := .asserted } }

/-- Point 23 RELEASING in RUN, its group asserted by it alone. -/
def releasing : State :=
  let c := { clearContext plainPoint [.normal] with state := .releasing, timer := some { kind := .release, remaining := 2000 } }
  (running.setContexts (setAt running.contexts 23 (some c))).setTrip { running.trip with
    groups := setAt running.trip.groups 1 { Group.powerOn with asserting := [23], output := .asserted } }

/-- A state with a frame in flight. -/
def flying (f : InFlight) (s : State) : State := s.setLine { s.line with queue := [], inFlight := some f, slots := .stopped }

/-- A JOIN in flight. -/
def joinFrame : InFlight := { kind := .join, sequence := 0, body := [], items := [.join] }

/-- A CHANGE in flight. -/
def changeFrame : InFlight := { kind := .change, sequence := 1, body := [], items := [.change 2 .high] }

/-! ### Power, reset and the port -/

/-- R160. -/
theorem test_powerOn : (after .powerOn running).ctrl.station = .reset ∧ (after .powerOn running).ctrl.counts.points = 0 := by
  decide +kernel

/-- R160: ten microseconds are enough. -/
theorem test_rstLow : (after (.rstLow 10) running).ctrl.station = .reset ∧ (after (.rstLow 10) running).pins.rstLow = true := by
  decide +kernel

/-- R160: the start-up lasts 2 ms. -/
theorem test_rstHigh : (after .rstHigh State.reset).ctrl.startup = some 2 := by decide +kernel

/-- R160, R174: with CS low the port waits. -/
theorem test_startupComplete :
    let t := after .startupComplete (after .csFalling (after .rstHigh State.reset))
    t.ctrl.station = .setup ∧ t.port.transaction = .waiting := by decide +kernel

/-- R174. -/
theorem test_csFalling :
    (after .csFalling ((serving .setup).setPort { SetupPort.powerOn with transaction := .closed })).sdoByte 0 = some 0 := by
  decide +kernel

/-- R176: CS rising before the request is taken discards it. -/
theorem test_csRising :
    (after .csRising (serving .setup)).port.transaction = .closed ∧ (after .csRising (serving .setup)).sdoByte 0 = none := by
  decide +kernel

/-- R175: BAD_OPERAND 0x02, and BUSY 0x03 in VALIDATING. -/
theorem test_unknownRequest : (after (.unknownRequest 0x40) (serving .run)).port.answer = [2] ∧
    (after (.unknownRequest 0x40) (serving .validating)).port.answer = [3] := by decide +kernel

/-! ### Requests of SETUP -/

/-- R180: a beat interval of 1 is out of range, 2 is not. -/
theorem test_setStation : (after (.setStation 15 3 2 1) (serving .setup)).ctrl.settings.address = 15 ∧
    (after (.setStation 15 3 1 1) (serving .setup)).port.answer = [2] := by decide +kernel

/-- R86: a code of 4096 is out of range, a hysteresis of 255 is not. -/
theorem test_setProfile :
    ((after (.setProfile 7 1 2 3 4095 255 15 1) (serving .setup)).chan.profiles[7]).hysteresis = 255 ∧
    (after (.setProfile 7 1 2 3 4096 0 1 0) (serving .setup)).port.answer = [2] := by decide +kernel

/-- R85. -/
theorem test_setChannel : ((after (.setChannel 7 1 3) (serving .setup)).chan.channels[7]).profile = 3 ∧
    (after (.setChannel 8 1 3) (serving .setup)).port.answer = [2] := by decide +kernel

/-- R66: the state check comes before the operand checks. -/
theorem test_setGroup : ((after (.setGroup 3 1 1) (serving .setup)).trip.groups[3]).failAction = .hold ∧
    (after (.setGroup 4 9 9) (serving .run)).port.answer = [1] := by decide +kernel

/-- R10: one result byte says whether the point is present. -/
theorem test_stageBegin : (after (.stageBegin 23) (loaded .setup)).port.answer = [0, 1] ∧
    (after (.stageBegin 24) (loaded .setup)).port.answer = [2] := by decide +kernel

/-- R11: with valid operands and nothing staged, NOT_STAGED. -/
theorem test_stagePoint : (after (.stagePoint 2 2 0 1 0 500 0) (serving .setup)).port.answer = [6, 1] ∧
    (after (.stagePoint 2 8 0 1 0 500 0) (serving .setup)).port.answer = [2] := by decide +kernel

/-- A state with point 0 staged over sensor (2, 2). -/
def staged : State :=
  (serving .setup).setPort { (serving .setup).port with staging := some { point := 0, draft :=
    { latchedPoint with contributors := [⟨2, 2⟩, ⟨0, 2⟩] } } }

/-- R12: DUPLICATE for a pair in the list, the new length for another. -/
theorem test_stageAdd : (after (.stageAdd 2 2) staged).port.answer = [5] ∧
    (after (.stageAdd 1 2) staged).port.answer = [0, 3] := by decide +kernel

/-- R14: the list is sorted, the three counts answered. -/
theorem test_commitPoint : (after .commitPoint staged).port.answer = [0, 1, 2, 2] ∧
    ((after .commitPoint staged).ctrl.points[0]).map (·.contributors) = some [⟨0, 2⟩, ⟨2, 2⟩] := by decide +kernel

/-- R15. -/
theorem test_dropPoint : (after (.dropPoint 3) (loaded .setup)).port.answer = [0, 1, 1, 1] ∧
    (after (.dropPoint 4) (loaded .setup)).port.answer = [6, 7] := by decide +kernel

/-- R162. -/
theorem test_start : (after .start (serving .setup)).ctrl.station = .validating ∧
    (after .start (serving .run)).port.answer = [1] := by decide +kernel

/-- R163: with no point the START is rejected. -/
theorem test_validationEnd_rejected :
    (after (.validationEnd false) (serving .validating)).ctrl.rejection.reason = .noPoints ∧
    (after (.validationEnd false) (serving .validating)).flagSet .startDone = true := by decide +kernel

/-- R24, R166: LISTEN for 2 × 100 + 4 × 0 ms, the own source UNSETTLED and the other UNKNOWN. -/
theorem test_validationEnd_listen :
    (after (.validationEnd false) (loaded .validating)).ctrl.listen = some 200 ∧
    (after (.validationEnd false) (loaded .validating)).sources.map (·.verdict) = [.line .unsettled, .unknown] := by
  decide +kernel

/-- R172. -/
theorem test_restart : (after .restart (serving .faulted)).ctrl.station = .setup ∧
    (after .restart (serving .faulted)).port.answer = [0] := by decide +kernel

/-! ### Reads -/

/-- R181: the station settings after power-on stand at bytes 5 to 8 after the status. -/
theorem test_readStatus : ((after .readStatus (serving .setup)).port.answer.drop 5).take 4 = [0, 1, 10, 10] := by decide +kernel

/-- R64: ARMING at JOIN entry, two UNAVAILABLE, count 2 against 1, 500 ms left. -/
theorem test_readPoint : (after (.readPoint 3) joining).port.answer = [0, 1, 1, 0, 0, 2, 2, 1, 1, 0xF4] := by decide +kernel

/-- R182. -/
theorem test_readPointRecord : (after (.readPointRecord 3 2) (loaded .run)).port.answer = [0, 1, 5] ∧
    (after (.readPointRecord 3 3) (loaded .run)).port.answer = [2] := by decide +kernel

/-- R37: sources in ascending order. -/
theorem test_readSource : (after (.readSource 0) listening).port.answer = [0, 0, 2, 6, 0, 0, 0, 0] ∧
    (after (.readSource 2) listening).port.answer = [2] := by decide +kernel

/-- R122: with no table standing the own address reads SELF and every other UNHEARD. -/
theorem test_readPeer : (after (.readPeer 0) (serving .setup)).port.answer = List.replicate 15 0 ∧
    (after (.readPeer 1) (serving .setup)).port.answer = 0 :: 1 :: List.replicate 13 0 := by decide +kernel

/-- R101: a disabled channel holds OFF and no candidate. -/
theorem test_readChannel : (after (.readChannel 0) listening).port.answer = [0, 0, 0, 0, 0, 0, 5, 0x0F, 0] := by decide +kernel

/-- R81: an EMPTY record. -/
theorem test_readFirstOut :
    (after (.readFirstOut 2) running).port.answer = [0, 0, 2, 0, 2, 0, 0, 0, 0, 0, 0, 0, 0, 0] := by decide +kernel

/-- R186: the flags are returned and cleared. -/
theorem test_readEvents : (after .readEvents listening).port.answer = [0, 0x40] ∧
    (after .readEvents listening).port.flags = 0 := by decide +kernel

/-- R184, R185: INT falls when the mask takes in a flag that is set. -/
theorem test_setEventMask : (after (.setEventMask 0x40) listening).intLow = true ∧
    (after (.setEventMask 0x80) listening).port.answer = [2] := by decide +kernel

/-- R80. -/
theorem test_ackFirstOut : (after (.ackFirstOut 3) running).port.answer = [0] ∧
    (after (.ackFirstOut 4) running).port.answer = [2] := by decide +kernel

/-! ### Clears -/

/-- R48, R69, R74: a HELD point is cleared, its pin released, and with scope NETWORK a CLEAR is queued. -/
theorem test_clearPoints :
    let t := after (.clearPoints 0x08 1) holding
    pointState t 3 = some .clear ∧ t.tripPin 1 = .released ∧ t.line.queue = [.clear 0x08] := by decide +kernel

/-- R73. -/
theorem test_clrFalling : (after .clrFalling running).trip.press = some 10 := by decide +kernel

/-- R73: a press abandoned. -/
theorem test_clrRising : (after .clrRising (after .clrFalling running)).trip.press = none := by decide +kernel

/-- R52, R72: a qualified press on a latched point that still trips is refused. -/
theorem test_clrQualified :
    let t := after .clrQualified (after .clrFalling (withPoint .tripped [.excursion, .normal] none running))
    pointState t 3 = some .tripped ∧ t.flagSet .refused = true := by decide +kernel

/-! ### Expiries -/

/-- R59, R148, R167: with two UNAVAILABLE under FAILTRIP the point arms; L is assumed to be station 15. -/
theorem test_listenPeriodExpiry :
    let t := after .listenPeriodExpiry listening
    t.ctrl.station = .join ∧ t.line.queue = [.join] ∧ t.line.lastSender = some 15 ∧ pointState t 3 = some .arming := by
  decide +kernel

/-- R170: at RUN entry a set that is not empty asserts its pin and captures. -/
theorem test_settlePeriodExpiry :
    let s := joining.setTrip { joining.trip with groups := setAt joining.trip.groups 1 { Group.powerOn with asserting := [3] } }
    let t := after .settlePeriodExpiry (s.setCtrl { s.ctrl with settle := some 200 })
    t.ctrl.station = .run ∧ t.tripPin 1 = .asserted ∧ t.tripPin 0 = .released ∧ t.trip.firstOut[1].map (·.cause) = some .runEntry ∧
      t.port.flags = 0x43 := by decide +kernel

/-- R169. -/
theorem test_beatTimerExpiry :
    let t := after .beatTimerExpiry (running.setCtrl { running.ctrl with beatTimer := some 100 })
    t.line.queue = [.beat] ∧ t.ctrl.beatTimer = some 100 ∧ t.ctrl.tick = 100 := by decide +kernel

/-- R45, R69, R78: the point trips, its pin is asserted, the first-out record captured. -/
theorem test_confirmTimerExpiry :
    let t := after (.confirmTimerExpiry 3) running
    pointState t 3 = some .tripped ∧ t.tripPin 1 = .asserted ∧ t.trip.firstOut[1].map (·.tick) = some 500 ∧
      t.flagSet .trip = true := by decide +kernel

/-- R47, R69. -/
theorem test_releaseTimerExpiry :
    let t := after (.releaseTimerExpiry 23) releasing
    pointState t 23 = some .clear ∧ t.tripPin 1 = .released := by decide +kernel

/-- R116: a LIVE peer falls silent. -/
theorem test_silenceTimerExpiry :
    let t := after (.silenceTimerExpiry 1) (withPeerState .live listening)
    peerState t 1 = some .silent ∧ t.flagSet .peer = true := by decide +kernel

/-- R115: the silence timer runs on. -/
theorem test_healTimerExpiry :
    let t := after (.healTimerExpiry 1) (withPeerState .gapped listening)
    peerState t 1 = some .silent ∧ t.peers.map (fun v => v[(1 : Address)].silence) = some (some 200) := by decide +kernel

/-! ### The classifier -/

/-- R90. -/
theorem test_scanStart : (after .scanStart (listening.setChan { listening.chan with scan := [] })).chan.scan = [2] := by
  decide +kernel

/-- R93 (section 5.10): the first sample of 1500 leaves UNSETTLED with candidate NORMAL and count 1. -/
theorem test_conversionComplete :
    let r := (after (.conversionComplete (1500 * 6103515625)) listening).chan.channels[(2 : Channel)]
    r.lastCode = 1500 ∧ r.verdict = .unsettled ∧ r.candidate = some .normal ∧ r.count = 1 := by decide +kernel

/-- R93, R96 (section 5.10): the third sample settles the channel and is written to the own entry. -/
theorem test_conversionComplete_settles :
    let r := { listening.chan.channels[(2 : Channel)] with candidate := some .normal, count := 2 }
    let s := listening.setChan { listening.chan with channels := setAt listening.chan.channels 2 r }
    let t := after (.conversionComplete (1495 * 6103515625)) s
    t.chan.channels[(2 : Channel)].verdict = .normal ∧ t.sources.map (·.verdict) = [.line .normal, .unknown] := by
  decide +kernel

/-- R91, section 5.10: 2980 is NORMAL under NORMAL and HIGH under HIGH; 2940 is NORMAL under both. -/
theorem test_class : classOf window .normal 2980 = .normal ∧ classOf window .high 2980 = .high ∧
    classOf window .high 2940 = .normal ∧ classOf window .high 3950 = .fault := by decide

/-! ### The vote line -/

/-- R150, R151: with L at 15, slot 0 belongs to station 0, which starts its JOIN with sequence 0. -/
theorem test_slotStart :
    let t := after .slotStart joining
    t.line.inFlight.map (·.kind) = some .join ∧ t.line.inFlight.map (·.sequence) = some 0 ∧ t.line.sequence = 1 ∧
      t.transmitting = true := by decide +kernel

/-- R168: a JOIN that completes queues a BEAT and starts the beat timer and the settle period. -/
theorem test_frameComplete :
    let t := after .frameComplete (flying joinFrame joining)
    t.line.queue = [.beat] ∧ t.ctrl.beatTimer = some 100 ∧ t.ctrl.settle = some 200 ∧ t.line.lastSender = some 0 := by
  decide +kernel

/-- R137, R154: the items return, the abort count rises. -/
theorem test_abort :
    let t := after .abort (flying changeFrame running)
    t.line.queue = [.change 2 .high] ∧ t.line.aborts = 1 ∧ t.line.inFlight = none := by decide +kernel

/-- R154, R171: the eighth abort in a row. -/
theorem test_abort_eighth :
    let s := flying changeFrame running
    let t := after .abort (s.setLine { s.line with aborts := 7 })
    t.ctrl.station = .faulted ∧ t.ctrl.cause = .line ∧ t.tripPin 0 = .asserted := by decide +kernel

/-- R109: a matching JOIN brings its sender LIVE, and L is its address. -/
theorem test_receiveJoin :
    let t := after (.receiveJoin 1 6 (listening.ctrl.digest.getD 0) 10 0x20) (hearing listening)
    peerState t 1 = some .live ∧ t.line.lastSender = some 1 ∧ t.peers.map (fun v => v[(1 : Address)].expected) = some (some 7) := by
  decide +kernel

/-- R107, R118: one with another beat interval excludes it. -/
theorem test_receiveJoin_mismatch :
    let t := after (.receiveJoin 1 6 (listening.ctrl.digest.getD 0) 11 0x20) (hearing listening)
    peerState t 1 = some .excluded ∧ t.flagSet .digest = true := by decide +kernel

/-- R110: a matching BEAT loads the verdict of channel 5, the sixth code. -/
theorem test_receiveBeat :
    let t := after (.receiveBeat 1 6 (listening.ctrl.digest.getD 0) #v[0, 1, 2, 3, 4, 2, 6, 7]) (hearing listening)
    peerState t 1 = some .live ∧ t.sources.map (·.verdict) = [.line .unsettled, .line .high] := by decide +kernel

/-- R111, R114: out of sequence it is applied and the sender is GAPPED; in sequence it stays LIVE. -/
theorem test_receiveChange :
    let s := withPeerState .live (hearing listening)
    let t := after (.receiveChange 1 9 [0x51]) s
    peerState t 1 = some .gapped ∧ t.sources.map (·.verdict) = [.line .unsettled, .line .low] ∧
      peerState (after (.receiveChange 1 7 [0x51]) s) 1 = some .live := by decide +kernel

/-- R112: a PROBE naming self queues a BEAT. -/
theorem test_receiveProbe : (after (.receiveProbe 1 7 [0]) (withPeerState .live (hearing running))).line.queue = [.beat] := by
  decide +kernel

/-- R112: from UNHEARD it is not applied, and draws a PROBE. -/
theorem test_receiveProbe_unheard : (after (.receiveProbe 1 7 [0]) (hearing running)).line.queue = [.probe 1] := by decide +kernel

/-- R113: the mask of a LIVE sender clears a HELD point. -/
theorem test_receiveClear :
    pointState (after (.receiveClear 1 7 0x08) (withPeerState .live (hearing holding))) 3 = some .clear := by decide +kernel

/-- R147: a frame of unknown kind sets L alone. -/
theorem test_receiveUnknownKind :
    (after (.receiveUnknownKind 9) (hearing listening)).line.lastSender = some 9 := by decide +kernel

/-- R145: a station that enters LISTEN with the line dominant collects no frame until a dominant run begins. -/
theorem test_receiveUnknownKind_underWay :
    let s := enterListen true (loaded .validating)
    (after (.receiveUnknownKind 9) s).line.lastSender = none ∧
      (after (.receiveUnknownKind 9) (after .lineActivity s)).line.lastSender = some 9 := by decide +kernel

/-- R155, R171. -/
theorem test_duplicateAddress :
    let t := after .duplicateAddress (hearing listening)
    t.ctrl.station = .faulted ∧ t.ctrl.cause = .duplicateAddress ∧ t.line.lastSender = some 0 ∧ t.flagSet .fault = true := by
  decide +kernel

/-- R173: taken before the completion of the JOIN in flight, the report cuts it off, and nothing is left to complete. -/
theorem test_duplicateAddress_inFlight :
    let t := after .duplicateAddress (after .slotStart joining)
    t.ctrl.station = .faulted ∧ t.line.inFlight = none ∧ (after .frameComplete t).ctrl.settle = none ∧
      (after .frameComplete t).line.queue = [] := by decide +kernel

/-- R173: taken after the completion of the JOIN, the report stops the timers it started and empties the queue of its BEAT. -/
theorem test_duplicateAddress_afterJoin :
    let u := after .frameComplete (after .slotStart joining)
    let t := after .duplicateAddress u
    (u.ctrl.settle = some 200 ∧ u.ctrl.beatTimer = some 100 ∧ u.line.queue = [.beat]) ∧
      t.ctrl.station = .faulted ∧ t.ctrl.settle = none ∧ t.ctrl.beatTimer = none ∧ t.line.queue = [] := by decide +kernel

/-- R146: a broken frame leaves L as it was. -/
theorem test_brokenFrame :
    let t := after (.brokenFrame .checkValue) (hearing listening)
    t.line.lastSender = none ∧ t.line.receiver = .waiting true := by decide +kernel

/-- R145, R146: with the line dominant at LISTEN entry a short run is no broken frame, and a long one opens a frame. -/
theorem test_brokenFrame_rest :
    let s := after .lineActivity (enterListen true (loaded .validating))
    (after (.brokenFrame .shortBreak) s).line.receiver = .timing true ∧
      (after (.brokenFrame .newBreak) s).line.receiver = .collecting := by decide +kernel

/-- R145. -/
theorem test_characterGapTimeout :
    (after .characterGapTimeout (after .lineActivity listening)).line.receiver = .waiting true := by decide +kernel

/-- R149, R150: activity stops the slot count. -/
theorem test_lineActivity :
    (after .lineActivity (listening.setLine { listening.line with slots := .slot 4 })).line.slots = .stopped := by decide +kernel

/-! ### The idle step, and the words of the table -/

/-- Log 1: with nothing waiting and nothing due, 1 ms passes. -/
theorem test_idle :
    (match step (loaded .faulted) with
      | .next t => t.ctrl.tick
      | .fault _ => 0
      | .refused _ => 0) = 1 := by decide +kernel

/-- Log 15: no word of the table spells a command. -/
theorem test_tableWord : decodeTableWord 8 0x10 = none ∧ State.reset.withFetchWord 8 0x10 = State.reset := ⟨rfl, rfl⟩

/-! ### Bytes of chapter 11 -/

/-- Section 11.3: the digest of the stream worked there. -/
theorem test_digest : crc16 [0x0A, 0x00, 0x02, 0x02, 0x00, 0x01, 0x03, 0x02, 0x12, 0x22] = 0xA461 := by decide +kernel

/-- Section 11.4, R180. -/
theorem test_decode_setStation : decodeRequest [0x10, 0x01, 0x01, 0x0A, 0x0A] = some (.setStation 1 1 10 10) := by decide

/-- Section 11.4: bytes past the last operand are ignored. -/
theorem test_decode_extra : decodeRequest [0x21, 0x05, 0xFF] = some (.readPoint 5) ∧ decodeRequest [0x22, 0x05] = none := by decide

/-- R174: bits of 0x21 and 0x05, most significant first; one bit fewer completes no request. -/
theorem test_decode_samples :
    decodeSamples [false, false, true, false, false, false, false, true, false, false, false, false, false, true, false, true] =
      some (.readPoint 5) ∧
    decodeSamples [false, false, true, false, false, false, false, true, false, false, false, false, false, true, false] = none := by
  decide

/-- R174, R175: after the status byte, the flags 0x40 of a READ_EVENTS with bit 6 second. -/
theorem test_sdo_bits : (List.range 24).filter (fun n => (after .readEvents listening).sdoBit n = some true) = [9] := by
  decide +kernel

/-- Section 11.1: kind 5 from station 2, mask bytes least significant points first. -/
theorem test_decode_clear :
    decodeFrame ([0x52, 0x09, 0x03, 0x08, 0x00, 0x80] ++ halfBytes (crc16 [0x52, 0x09, 0x03, 0x08, 0x00, 0x80])) =
      .receiveClear 2 9 0x800008 := by decide +kernel

/-- R129: a wrong check value, a body of 41, a kind that is none of the five. -/
theorem test_decode_broken :
    decodeFrame [0x52, 0x09, 0x00, 0x00, 0x00] = .brokenFrame .checkValue ∧
    decodeFrame (0x52 :: 0x09 :: 41 :: List.replicate 43 0) = .brokenFrame .bodyLength ∧
    decodeFrame ([0x62, 0x09, 0x00] ++ halfBytes (crc16 [0x62, 0x09, 0x00])) = .receiveUnknownKind 2 := by decide +kernel

/-! ### Witnesses: for each statement with hypotheses, a state and operands that meet them, clause by clause -/

/-- A step from a state that is not `State.reset`: the command waiting is LINE_ACTIVITY. -/
def stepping (s : State) : State := s.setPending [.lineActivity]

theorem after_restart (s : State) : exec .restart s = .next (after .restart s) := rfl

theorem after_reset (s : State) : exec (.rstLow 10) s = .next (after (.rstLow 10) s) := rfl

theorem after_activity (s : State) : exec .lineActivity s = .next (after .lineActivity s) := rfl

theorem serving_serves {st : StationState} (h : st ≠ .reset) : (serving st).serves := ⟨h, rfl⟩

theorem loaded_serves {st : StationState} (h : st ≠ .reset) : (loaded st).serves := ⟨h, rfl⟩

theorem running_serves : running.serves := by unfold State.serves; decide +kernel

theorem listening_serves : listening.serves := by unfold State.serves; decide +kernel

theorem witness_StepRunsFrontCommand : (State.reset.setPending [.rstHigh, .powerOn]).pending = .rstHigh :: [.powerOn] := rfl

/-- Nothing due in SETUP, and the start-up due in RESET. -/
theorem witness_IdleStepTakesADueExpiryOrOneMs : (serving .setup).pending = [] ∧ (∀ i, ¬isDue (serving .setup) i) ∧
    (State.inReset [] .atPowerOn 0 (some 0)).pending = [] ∧ ∃ i, isDue (State.inReset [] .atPowerOn 0 (some 0)) i := by
  refine ⟨rfl, ?_, rfl, .startupComplete, .inl ⟨rfl, rfl, rfl⟩⟩
  intro i
  simp [isDue, serving, State.reset, State.inReset, Controller.powerOn, Classifier.powerOn, TripUnit.powerOn, StationState.voting,
    StationState.online, StationState.clocked]

theorem witness_PowerOnAndRstLowClearEverything : 10 ≤ 10 ∧ 9 < 10 ∧ (serving .run).pins.rstLow = false := by decide

/-- In RESET with the start-up held off by RST, and with it running. -/
theorem witness_StartUpLeadsToSetup (b : Option Nat) :
    powerOnValues (State.inReset [] { rstLow := b.isNone, csLow := true, clrLow := false } 5 b) := by
  simp [powerOnValues, State.inReset, Controller.powerOn, Classifier.powerOn, LineUnit.idle, TripUnit.powerOn, SetupPort.powerOn,
    Rejection.clear, Settings.powerOn, Cursor.home, State.intLow, State.sdoByte, State.sdoDriven, State.transmitting,
    State.tripPin, ChannelRecord.powerOn, Profile.powerOn, Group.powerOn]

theorem witness_TimersRunInTheirStates : (serving .setup).ctrl.station.online = false ∧ (serving .setup).peers = none ∧
    buildPeers 0 ∈ listening.peers ∧ listening.ctrl.station.online = true := ⟨rfl, rfl, rfl, rfl⟩

theorem witness_PortTransactions :
    ((serving .setup).setPort SetupPort.powerOn).ctrl.station ≠ .reset ∧
    ((serving .setup).setPort { SetupPort.powerOn with transaction := .closed }).port.transaction = .closed ∧
    (serving .run).port.transaction ≠ .closed ∧ State.reset.ctrl.station = .reset ∧
    (serving .validating).serves ∧ (serving .setup).serves :=
  ⟨by decide, rfl, by decide, rfl, serving_serves (by decide), serving_serves (by decide)⟩

theorem witness_RequestsAreAnsweredOrTurnedAway :
    (encodeRequest .start).isSome = true ∧ ¬State.reset.serves ∧ (serving .run).serves ∧
    takenIn .start (serving .run).ctrl.station = false ∧ (serving .validating).serves ∧
    takenIn .start (serving .validating).ctrl.station = false ∧ (encodeRequest (.readPoint 24)).isSome = true :=
  ⟨rfl, fun h => h.1 rfl, serving_serves (by decide), rfl, serving_serves (by decide), rfl, rfl⟩

theorem witness_SetStationLoadsTheSettings : (serving .setup).serves ∧ (serving .setup).ctrl.station = .setup ∧
    2 ≤ (2#8).toNat ∧ 1 ≤ (1#8).toNat ∧ 15 < (16#8).toNat ∧ 3 < (4#8).toNat ∧ (1#8).toNat < 2 ∧ (0#8).toNat = 0 :=
  ⟨serving_serves (by decide), rfl, by decide, by decide, by decide, by decide, by decide, rfl⟩

theorem witness_ClassifierSettingsAreLoaded : (serving .setup).serves ∧ (serving .setup).ctrl.station = .setup ∧
    7 < (8#8).toNat ∧ 1 < (2#8).toNat ∧ (4095#16).toNat ≤ 4095 ∧ 4095 < (4096#16).toNat ∧ 1 ≤ (1#8).toNat ∧
    (15#8).toNat ≤ 15 ∧ 15 < (16#8).toNat ∧ (serving .validating).serves ∧ (serving .validating).ctrl.station ≠ .setup ∧
    exec (.rstLow 10) running = .next (after (.rstLow 10) running) ∧
    exec .restart running = .next (after .restart running) :=
  ⟨serving_serves (by decide), rfl, by decide, by decide, by decide, by decide, by decide, by decide, by decide,
    serving_serves (by decide), by decide, after_reset _, after_restart _⟩

theorem witness_SetGroupLoadsBothSettings : (serving .setup).serves ∧ (serving .setup).ctrl.station = .setup ∧
    3 < (4#8).toNat ∧ 1 < (2#8).toNat ∧ (serving .validating).serves ∧ (serving .faulted).serves :=
  ⟨serving_serves (by decide), rfl, by decide, by decide, serving_serves (by decide), serving_serves (by decide)⟩

theorem witness_StagingRequestsBuildTheRecord : staged.serves ∧ staged.ctrl.station = .setup ∧ 23 < (24#8).toNat ∧
    2 < (3#8).toNat ∧ 3 < (4#8).toNat ∧ 1 < (2#8).toNat ∧ 7 < (8#8).toNat ∧ 15 < (16#8).toNat :=
  ⟨⟨by decide, rfl⟩, rfl, by decide, by decide, by decide, by decide, by decide, by decide⟩

/-- `staged` with one change to its draft, and a pool count. -/
def stagedWith (pool : Nat) (f : PointRecord → PointRecord) : State :=
  ((serving .setup).setPort { (serving .setup).port with
    staging := some { point := 0, draft := f { latchedPoint with contributors := [⟨2, 2⟩, ⟨0, 2⟩] } } }).setCtrl
      { (serving .setup).ctrl with counts := { points := 0, pool := pool, sources := 0 } }

theorem witness_CommitAndDropChangeTheTable :
    (serving .setup).port.staging = none ∧ (stagedWith 0 id).serves ∧ (stagedWith 0 id).ctrl.station = .setup ∧
    (∃ d ∈ (stagedWith 0 fun r => { r with contributors := [] }).port.staging, d.draft.contributors = []) ∧
    (∃ d ∈ (stagedWith 0 fun r => { r with quorum := 3 }).port.staging, d.draft.contributors.length < d.draft.quorum) ∧
    (∃ d ∈ (stagedWith 0 fun r => { r with mask := 0 }).port.staging, 1 ≤ d.draft.quorum ∧ d.draft.mask = 0) ∧
    (∃ d ∈ (stagedWith 0 fun r => { r with confirm := 2560 }).port.staging, d.draft.mask ≠ 0 ∧ 2550 < d.draft.confirm) ∧
    (∃ d ∈ (stagedWith 0 fun r => { r with release := 2545 }).port.staging, d.draft.release % 10 ≠ 0) ∧
    (∃ d ∈ (stagedWith 95 fun r => { r with confirm := 2550 }).port.staging, d.draft.confirm ≤ 2550 ∧ d.draft.confirm % 10 = 0 ∧
      d.draft.release = 0 ∧ d.draft.quorum ≤ d.draft.contributors.length ∧
      (96 : Int) < ((stagedWith 95 id).ctrl.counts.pool : Int) - heldLength (stagedWith 95 id).ctrl.points d.point +
        d.draft.contributors.length) ∧
    (∃ d ∈ (stagedWith 94 id).port.staging, ((stagedWith 94 id).ctrl.counts.pool : Int) -
      heldLength (stagedWith 94 id).ctrl.points d.point + d.draft.contributors.length ≤ 96) ∧
    23 < (24#8).toNat ∧ (loaded .setup).ctrl.points[(0 : PointNo)] = none ∧
    ((loaded .setup).ctrl.points[(23 : PointNo)]).isSome = true := by
  refine ⟨rfl, ⟨by decide, rfl⟩, rfl, ⟨_, rfl, ?_⟩, ⟨_, rfl, ?_⟩, ⟨_, rfl, ?_⟩, ⟨_, rfl, ?_⟩, ⟨_, rfl, ?_⟩, ⟨_, rfl, ?_⟩,
    ⟨_, rfl, ?_⟩, by decide, by decide +kernel, by decide +kernel⟩ <;> decide +kernel

theorem witness_StartEntersValidating : (serving .setup).serves ∧ (serving .validating).serves ∧ (serving .listen).serves ∧
    (serving .listen).ctrl.station ≠ .setup ∧ (serving .listen).ctrl.station ≠ .validating :=
  ⟨serving_serves (by decide), serving_serves (by decide), serving_serves (by decide), by decide, by decide⟩

/-- `loaded .validating` with channel 2 disabled. -/
def disabledOwn : State := (loaded .validating).setChan (serving .validating).chan

/-- `loaded .validating` with a profile that is not valid. -/
def badWindow : State := (loaded .validating).setChan { (loaded .validating).chan with
  profiles := Vector.replicate 8 { window with hysteresis := 1100 } }

/-- Seven points of eight pairs each, no pair twice: the seventh brings the count from 48 to 56. -/
def wideTable : State :=
  (serving .validating).setCtrl { (serving .validating).ctrl with
    points := Vector.ofFn fun p : PointNo => if p < 7 then some { latchedPoint with
      contributors := (List.finRange 8).map fun c => { station := Fin.ofNat 16 (p.val + 1), channel := c } } else none }

theorem witness_FailedChecksRejectTheStart :
    ((serving .validating).ctrl.station = .validating ∧ ∀ p : PointNo, (serving .validating).ctrl.points[p] = none) ∧
    (disabledOwn.ctrl.station = .validating ∧ (∃ p : PointNo, disabledOwn.ctrl.points[p].isSome = true) ∧
      firstWith (ownDisabled disabledOwn) 2) ∧
    (badWindow.ctrl.station = .validating ∧ (∀ c : Channel, ¬ownDisabled badWindow c) ∧ firstWith (badProfile badWindow) 2) ∧
    (wideTable.ctrl.station = .validating ∧ (∃ p : PointNo, wideTable.ctrl.points[p].isSome = true) ∧
      (∀ c : Channel, ¬ownDisabled wideTable c) ∧ (∀ c : Channel, ¬badProfile wideTable c) ∧
      firstWith (exceedsAt wideTable) 6) := by
  unfold firstWith ownDisabled named badProfile profileInvalid exceedsAt
  refine ⟨⟨rfl, ?_⟩, ⟨rfl, ?_, ?_, ?_⟩, ⟨rfl, ?_, ?_, ?_⟩, ⟨rfl, ?_, ?_, ?_, ?_, ?_⟩⟩ <;> decide +kernel

theorem loaded_passes : startPasses (loaded .validating) := by
  unfold startPasses ownDisabled named badProfile profileInvalid exceedsAt
  decide +kernel

theorem witness_PassedChecksEnterListen : (loaded .validating).ctrl.station = .validating ∧ startPasses (loaded .validating) :=
  ⟨rfl, loaded_passes⟩

theorem loaded_table (st : StationState) : TableInv (loaded st) := by
  unfold TableInv PointRecord.committed Staging.listOk
  cases st <;> decide +kernel

theorem witness_StartBuildsTheTables : (loaded .validating).ctrl.station = .validating ∧ startPasses (loaded .validating) ∧
    TableInv (loaded .validating) := ⟨rfl, loaded_passes, loaded_table _⟩

theorem witness_RestartKeepsConfigurationAlone : running.serves ∧ (serving .faulted).serves :=
  ⟨running_serves, serving_serves (by decide)⟩

theorem witness_PointReadsReturnVoteAndRecord : listening.serves ∧ listening.ctrl.station ≠ .validating ∧ 23 < (24#8).toNat ∧
    listening.ctrl.points[(0 : PointNo)] = none ∧ latchedPoint ∈ listening.ctrl.points[(3 : PointNo)] ∧
    builtContext latchedPoint ∈ listening.contexts[(3 : PointNo)] ∧ (loaded .setup).contexts[(3 : PointNo)] = none ∧ (8#8) ≠ 0 ∧
    (loaded .validating).serves ∧ (loaded .validating).ctrl.station = .validating :=
  ⟨listening_serves, by decide, by decide, by decide +kernel, by decide +kernel, by decide +kernel, by decide +kernel, by decide,
    loaded_serves (by decide), rfl⟩

theorem witness_StatusAndTableReadsReturnTheirRecords : (serving .validating).serves ∧ listening.serves ∧
    listening.ctrl.station ≠ .validating ∧ 15 < (16#8).toNat ∧ 7 < (8#8).toNat ∧ listening.peers = some (buildPeers 0) ∧
    (serving .setup).peers = none :=
  ⟨serving_serves (by decide), listening_serves, by decide, by decide, by decide, rfl, rfl⟩

/-- A captured first-out record of group 1 in RUN, with the cursor at a place. -/
def captured (position : Option Nat) : State :=
  (running.setTrip { running.trip with firstOut := setAt running.trip.firstOut 1 (some
      { point := 3, tick := 0, snapshot := [⟨⟨0, 2⟩, .unavailable⟩], subsequent := 255, cause := .tripEvent }) }).setPort
    { running.port with cursor := { group := 1, position := position } }

theorem witness_FirstOutIsReadAndAcknowledged : (captured none).serves ∧ (captured none).ctrl.station ≠ .validating ∧
    3 < (4#8).toNat ∧ (captured none).trip.firstOut[(0 : GroupNo)] = none ∧
    ((captured none).trip.firstOut[(1 : GroupNo)]).isSome = true ∧ (captured none).port.cursor.position = none ∧
    (captured (some 0)).port.cursor = { group := 1, position := some 0 } := by
  unfold State.serves
  decide +kernel

theorem witness_EventFlagsMaskAndInt : running.serves ∧ running.ctrl.station ≠ .validating ∧ 127 < (128#8).toNat ∧
    (serving .validating).serves ∧ exec (.rstLow 10) running = .next (after (.rstLow 10) running) ∧
    exec .restart running = .next (after .restart running) :=
  ⟨running_serves, by decide +kernel, by decide, serving_serves (by decide), after_reset _, after_restart _⟩

theorem witness_ClearPointsClearsAndQueues : holding.serves ∧ holding.ctrl.station = .run ∧ 1 < (2#8).toNat ∧
    (0x800000 : PointMask) ≠ 0 := by
  unfold State.serves
  decide +kernel

theorem witness_ClrPressIsQualified : (after .clrFalling running).trip.press = some 10 ∧
    (after .clrFalling running).ctrl.station = .run ∧ (after .clrFalling joining).trip.press = some 10 ∧
    (after .clrFalling joining).ctrl.station ≠ .run := by decide +kernel

theorem witness_ListenPeriodEndsInJoin : listening.ctrl.station = .listen ∧ listening.ctrl.listen = some 200 ∧
    listening.line.queue = [] ∧ listening.ctrl.points[(0 : PointNo)] = none ∧
    latchedPoint ∈ listening.ctrl.points[(3 : PointNo)] ∧ builtContext latchedPoint ∈ listening.contexts[(3 : PointNo)] ∧
    (builtContext latchedPoint).state = .clear ∧ (builtContext latchedPoint).timer = none ∧
    (∀ g : GroupNo, listening.trip.groups[g].asserting = []) ∧
    (∀ p : PointNo, ∀ c ∈ listening.contexts[p], c.state = .clear ∧ c.timer = none) := by decide +kernel

/-- JOIN with the settle period running and point 3 TRIPPED. -/
def settling : State :=
  let s := withPoint .tripped [.unavailable, .unavailable] none joining
  (s.setCtrl { s.ctrl with settle := some 200 }).setTrip { s.trip with
    groups := setAt s.trip.groups 1 { Group.powerOn with asserting := [3], output := .released } }

theorem witness_SettlePeriodEndsInRun : settling.ctrl.station = .join ∧ settling.ctrl.settle = some 200 ∧
    settling.trip.groups[(0 : GroupNo)].asserting = [] ∧ settling.port.cursor.group = 0 ∧ settling.trip.groups[(1 : GroupNo)].asserting = 3 :: [] ∧
    latchedPoint ∈ settling.ctrl.points[(3 : PointNo)] ∧
    (∃ c ∈ settling.contexts[(3 : PointNo)], c.standings.length = latchedPoint.contributors.length) := by decide +kernel

theorem witness_FrameCompletionAndBeatTimer :
    (flying changeFrame running).ctrl.station.voting = true ∧ (flying changeFrame running).line.inFlight = some changeFrame ∧
    changeFrame.kind ≠ .join ∧ (flying joinFrame joining).line.inFlight = some joinFrame ∧ joinFrame.kind = .join ∧
    (running.setCtrl { running.ctrl with beatTimer := some 100 }).ctrl.beatTimer = some 100 := by decide +kernel

theorem witness_VerdictsGiveStandings : (∃ p : PeerState, p = .self ∨ p = .live ∨ p = .gapped) ∧
    ∃ p : PeerState, p = .unheard ∨ p = .silent ∨ p = .excluded := ⟨⟨.gapped, by decide⟩, ⟨.excluded, by decide⟩⟩

theorem witness_PoliciesGiveCountAndQuorum : latchedPoint.policy = .failtrip ∧ plainPoint.policy = .degrade ∧
    ({ plainPoint with policy := .ignore } : PointRecord).policy = .ignore ∧
    (builtContext plainPoint).excursions = 0 ∧ 1 ≤ (clearContext plainPoint [.excursion]).excursions := by decide

/-- A notice to point 3 that its contributor 1 stands NORMAL. -/
def notice : Notice :=
  { point := 3, changes := [{ point := 3, position := 1, before := .unavailable, after := .normal }] }

theorem witness_NoticesMakeOneTransition : running.ctrl.points[notice.point] = some latchedPoint ∧
    (running.contexts[notice.point]).isSome = true := by decide +kernel

theorem witness_PointTimersTripAndRelease : running.ctrl.station.voting = true ∧
    running.ctrl.points[(3 : PointNo)] = some latchedPoint ∧
    (running.contexts[(3 : PointNo)]).map (fun c => (c.state, c.timer)) =
      some (.arming, some { kind := .confirm, remaining := 500 }) ∧
    (joining.contexts[(3 : PointNo)]).map (fun c => (c.state, c.timer)) =
      some (.arming, some { kind := .confirm, remaining := 500 }) ∧
    running.trip.groups[(1 : GroupNo)].asserting = [] ∧ running.trip.firstOut[(1 : GroupNo)] = none ∧
    ((captured none).trip.firstOut[(1 : GroupNo)]).isSome = true ∧ releasing.trip.groups[(1 : GroupNo)].asserting ≠ [] ∧
    releasing.ctrl.points[(23 : PointNo)] = some plainPoint ∧
    (releasing.contexts[(23 : PointNo)]).map (fun c => (c.state, c.timer)) =
      some (.releasing, some { kind := .release, remaining := 2000 }) := by decide +kernel

theorem witness_PeerTimersSilence :
    (withPeerState .live listening).ctrl.station.online = true ∧
    ((withPeerState .live listening).peers.map fun v => (v[(1 : Address)].state, v[(1 : Address)].silence)) =
      some (.live, some 300) ∧
    ((withPeerState .silent listening).peers.map fun v => (v[(1 : Address)].state, v[(1 : Address)].silence)) =
      some (.silent, some 300) ∧
    ((withPeerState .gapped running).peers.map fun v => (v[(1 : Address)].state, v[(1 : Address)].heal)) =
      some (.gapped, some 100) ∧
    ((withPeerState .self listening).peers.map fun v => (v[(1 : Address)].state, v[(1 : Address)].silence)) =
      some (.self, some 300) ∧
    ((elapse 300 (withPeerState .live listening)).peers).isSome = true ∧ keysDistinct (withPeerState .live listening) := by
  unfold keysDistinct
  decide +kernel

theorem witness_VoltagesAreConvertedAndClassified : (0 : Int) ≤ 0 ∧ (25000000000000 : Int) ≤ 25000000000000 ∧
    (0 : Int) ≤ 24999999999999 ∧ (24999999999999 : Int) < 25000000000000 := by decide

theorem witness_ScansSampleAndPersist : listening.ctrl.station.clocked = true ∧ listening.chan.scanTimer = some 10 ∧
    listening.chan.scan = 2 :: [] ∧ listening.chan.channels[(2 : Channel)].contributing = true ∧
    listening.ctrl.station ≠ .faulted ∧ listening.chan.channels[(2 : Channel)].verdict ≠ .normal ∧
    (loaded .faulted).ctrl.station = .faulted ∧ (loaded .faulted).chan.channels[(2 : Channel)].contributing = false := by
  decide +kernel

theorem witness_OwnedSlotsStartFrames : joining.ctrl.station.online = true ∧ joining.line.inFlight = none ∧
    joining.line.slots = .stopped ∧ joining.ctrl.station.voting = true ∧ joining.line.queue = .join :: [] ∧
    joining.line.lastSender = some 15 ∧ ((15 : Address).val + 1 + 0) % 16 = joining.ctrl.settings.address.val ∧
    (after .slotStart running).line.slots = .slot 0 ∧ running.line.queue = [] ∧
    ([SendItem.change 2 .high].length ≤ 8) ∧ [SendItem.probe 1].length ≤ 4 := by decide +kernel

theorem witness_AbortedFramesAreRestored : (flying changeFrame running).ctrl.station.voting = true ∧
    (flying changeFrame running).line.inFlight = some changeFrame ∧ changeFrame.itemsFit ∧ joinFrame.itemsFit ∧
    ({ joinFrame with kind := .clear, items := [.clear 1] } : InFlight).itemsFit ∧
    (flying changeFrame running).line.aborts < 7 ∧ 7 ≤ (running.setLine { running.line with aborts := 7 }).line.aborts :=
  ⟨by decide +kernel, rfl, ⟨by decide, by decide⟩, rfl, ⟨rfl, by decide⟩, by decide +kernel, by decide +kernel⟩

theorem witness_BrokenFramesReachNoBlock : (serving .setup).ctrl.station.online = false ∧ carriesFrame (.receiveClear 1 0 1) ∧
    listening.ctrl.station.online = true ∧ listening.line.inFlight = none ∧ listening.line.receiver = .entered false ∧
    (after .frameComplete (after .slotStart joining)).line.receiver = .waiting false ∧
    (hearing listening).line.receiver = .timing false ∧
    (after .lineActivity (enterListen true (loaded .validating))).line.receiver = .timing true ∧
    (listening.setLine { listening.line with receiver := .collecting }).line.receiver = .collecting :=
  ⟨rfl, .inl rfl, rfl, rfl, rfl, by decide +kernel, rfl, rfl, rfl⟩

/-- Without a frame in flight, with the JOIN in flight, and once the JOIN has completed. -/
theorem witness_OwnAddressHeardFaultsTheStation : (hearing listening).ctrl.station.online = true ∧
    (hearing listening).line.receiver = .timing false ∧ (hearing listening).line.inFlight = none ∧
    (15 : Address) ≠ (hearing listening).ctrl.settings.address ∧
    (after .slotStart joining).line.receiver = .collecting ∧ (after .slotStart joining).line.inFlight.isSome = true ∧
    (after .frameComplete (after .slotStart joining)).ctrl.station.online = true ∧
    (after .frameComplete (after .slotStart joining)).line.receiver = .waiting false := by
  decide +kernel

/-- The peer table that stands. -/
def peersOf (s : State) : PeerTable := s.peers.getD (buildPeers 0)

theorem withPeerState_hears (p : PeerState) :
    (withPeerState p (hearing running)).hears (peersOf (withPeerState p (hearing running))) ∧
      (peersOf (withPeerState p (hearing running)))[(1 : Address)].state = p := by
  unfold State.hears keysDistinct
  cases p <;> decide +kernel

/-- Station 1 is not the own one, and matching and other beat intervals and digests exist. -/
theorem withPeerState_facts (p : PeerState) : (1 : Address) ≠ (withPeerState p (hearing running)).ctrl.settings.address ∧
    (10#8).toNat = (withPeerState p (hearing running)).ctrl.settings.beat ∧ (9#8).toNat ≠ (withPeerState p (hearing running)).ctrl.settings.beat ∧
    (withPeerState p (hearing running)).ctrl.digest.isSome = true := by
  cases p <;> decide +kernel

/-- A JOIN that matches, one that does not, from every state of the sender. -/
theorem witness_JoinMovesItsSender (p : PeerState) :
    ((withPeerState p (hearing running)).hears (peersOf (withPeerState p (hearing running))) ∧
      (peersOf (withPeerState p (hearing running)))[(1 : Address)].state = p) ∧
    (1 : Address) ≠ (withPeerState p (hearing running)).ctrl.settings.address ∧
    (10#8).toNat = (withPeerState p (hearing running)).ctrl.settings.beat ∧ (9#8).toNat ≠ (withPeerState p (hearing running)).ctrl.settings.beat ∧
    (withPeerState p (hearing running)).ctrl.digest.isSome = true := ⟨withPeerState_hears p, withPeerState_facts p⟩

/-- A BEAT that matches, one that does not, from every state of the sender. -/
theorem witness_BeatLoadsItsSender (p : PeerState) :
    ((withPeerState p (hearing running)).hears (peersOf (withPeerState p (hearing running))) ∧
      (peersOf (withPeerState p (hearing running)))[(1 : Address)].state = p) ∧
    (1 : Address) ≠ (withPeerState p (hearing running)).ctrl.settings.address ∧ (withPeerState p (hearing running)).ctrl.digest.isSome = true :=
  ⟨withPeerState_hears p, (withPeerState_facts p).1, (withPeerState_facts p).2.2.2⟩

/-- One entry and eight, of channels the part has and of none it has, in every state of the sender; sequence 7 is the expected one. -/
theorem witness_ChangeActsByItsSendersState (p : PeerState) :
    ((withPeerState p (hearing running)).hears (peersOf (withPeerState p (hearing running))) ∧
      (peersOf (withPeerState p (hearing running)))[(1 : Address)].state = p) ∧
    (1 : Address) ≠ (withPeerState p (hearing running)).ctrl.settings.address ∧ 1 ≤ [0x51#8].length ∧
    (List.replicate 8 0x51#8).length ≤ 8 ∧
    (∃ b ∈ [0x51#8], (highNibble b).toNat < 8) ∧ (∀ b ∈ [0x81#8, 0xF2], 8 ≤ (highNibble b).toNat) ∧
    (withPeerState p (hearing running)).peers.map (fun v => v[(1 : Address)].expected) = some (some 7) :=
  ⟨withPeerState_hears p, (withPeerState_facts p).1, by decide, by decide, by decide, by decide, by cases p <;> decide +kernel⟩

/-- One target and four, in every state of the sender. -/
theorem witness_ProbeAndClearActByTheirSendersState (p : PeerState) :
    ((withPeerState p (hearing running)).hears (peersOf (withPeerState p (hearing running))) ∧
      (peersOf (withPeerState p (hearing running)))[(1 : Address)].state = p) ∧
    (1 : Address) ≠ (withPeerState p (hearing running)).ctrl.settings.address ∧ 1 ≤ [0#8].length ∧ [0#8, 1, 2, 0xFF].length ≤ 4 :=
  ⟨withPeerState_hears p, (withPeerState_facts p).1, by decide, by decide⟩

/-- With one byte fewer, and with one sample fewer. -/
theorem witness_RequestsDecodeFromTheirBytes : (Instr.stageAdd 1 2).wellFormed = true ∧
    encodeRequest (.stageAdd 1 2) = some [0x16, 1, 2] ∧ [0x16#8, 1] <+: [0x16#8, 1, 2] ∧ [0x16#8, 1] ≠ [0x16#8, 1, 2] ∧
    ([0x16#8, 1, 2].flatMap byteBits).dropLast <+: [0x16#8, 1, 2].flatMap byteBits ∧
    ([0x16#8, 1, 2].flatMap byteBits).dropLast ≠ [0x16#8, 1, 2].flatMap byteBits := by decide

/-- A table that differs in group, confirm time and release time alone. -/
theorem witness_ChapterElevenCodesAndBytes :
    let t := setAt PointTable.empty 3 (some latchedPoint)
    let t' := setAt PointTable.empty 3 (some { latchedPoint with group := 2, confirm := 0, release := 10 })
    (∀ p : PointNo, t'[p] = t[p].map fun r =>
      { r with group := (t'[p].map (·.group)).getD 0, confirm := (t'[p].map (·.confirm)).getD 0,
               release := (t'[p].map (·.release)).getD 0 }) ∧ t' ≠ t ∧ 7 ≤ 7 ∧ 2 < 3 ∧ 7 < 8 := by decide +kernel

theorem witness_FramesDecodeFromTheirCharacters : (Instr.receiveProbe 1 0 [1, 2, 3, 4]).wellFormed = true ∧
    (encodeFrame (.receiveProbe 1 0 [1, 2, 3, 4])).isSome = true := ⟨rfl, rfl⟩

/-- At the lowest address bit and at the highest. -/
theorem witness_LowestAddressBitDecidesCollisions :
    ((∀ i < 0, (1 : Address).val.testBit i = (0 : Address).val.testBit i) ∧ (1 : Address).val.testBit 0 = true ∧
      (0 : Address).val.testBit 0 = false) ∧
    3 < 4 ∧ (∀ i < 3, (15 : Address).val.testBit i = (7 : Address).val.testBit i) ∧ (15 : Address).val.testBit 3 = true ∧
      (7 : Address).val.testBit 3 = false := by decide

theorem witness_ConfigurationIsFrozenOutsideSetup :
    exec .lineActivity running = .next (after .lineActivity running) ∧ running.ctrl.station ≠ .setup :=
  ⟨after_activity _, by decide +kernel⟩

theorem witness_FaultedIsLeftByRestartAndResetAlone :
    exec .lineActivity (loaded .faulted) = .next (after .lineActivity (loaded .faulted)) ∧
    (loaded .faulted).ctrl.station = .faulted := ⟨after_activity _, rfl⟩

theorem witness_FlagsStayUntilReadOrReset : exec .lineActivity running = .next (after .lineActivity running) ∧
    running.flagSet .startDone = true := ⟨after_activity _, by decide +kernel⟩

theorem witness_FirstOutStandsUntilAcknowledged :
    exec .lineActivity (captured none) = .next (after .lineActivity (captured none)) ∧ FirstOutInv (captured none) ∧
    ((captured none).trip.firstOut[(1 : GroupNo)]).isSome = true ∧ (0#8).toNat ≠ (1 : GroupNo).val := by
  unfold FirstOutInv
  refine ⟨after_activity _, ?_, ?_, by decide⟩ <;> decide +kernel

theorem witness_SequenceAdvancesAtFrameStarts :
    (∀ s, exec .slotStart s = .next (after .slotStart s)) ∧ joining.line.inFlight = none ∧
    (after .slotStart joining).line.inFlight.isSome = true ∧ exec .restart running = .next (after .restart running) :=
  ⟨fun _ => rfl, by decide +kernel, by decide +kernel, after_restart _⟩

theorem stepping_steps (s : State) : ∃ t, step (stepping s) = .next t := ⟨_, rfl⟩

theorem witness_StepsKeepThePointTableWellFormed : TableInv (stepping (loaded .run)) ∧ ∃ t, step (stepping (loaded .run)) = .next t :=
  ⟨loaded_table .run, stepping_steps _⟩

theorem joining_line : LineInv (stepping joining) := by
  have h : (stepping joining).line.inFlight = none := by decide +kernel
  have hq : (stepping joining).line.queue = [.join] := by decide +kernel
  have hi : (stepping joining).line.itemsInFlight = [] := by decide +kernel
  unfold LineInv queueBounded
  rw [hq, hi, h]
  refine ⟨?_, ?_, ?_, by simp, ?_, ?_, ?_, ?_, ?_, ?_, ?_, ?_, ?_⟩ <;> decide +kernel

theorem joining_life : LifeInv (stepping joining) := by
  refine ⟨joining_line, ?_⟩
  decide +kernel

theorem witness_StepsKeepQueueBoundsAndLifeCycle : LifeInv (stepping joining) ∧ ∃ t, step (stepping joining) = .next t :=
  ⟨joining_life, stepping_steps _⟩

theorem joining_channels : ChannelInv (stepping joining) := by
  unfold ChannelInv Profile.inRange ChannelRecord.settled
  decide +kernel

theorem witness_StepsKeepChannelRecords : ChannelInv (stepping joining) ∧ ∃ t, step (stepping joining) = .next t :=
  ⟨joining_channels, stepping_steps _⟩

theorem joining_verdicts : VerdictInv (stepping joining) := by
  unfold VerdictInv PeerInv PeerEntry.fits
  decide +kernel

theorem witness_StepsKeepUnheardSourcesUnknown : VerdictInv (stepping joining) ∧ ∃ t, step (stepping joining) = .next t :=
  ⟨joining_verdicts, stepping_steps _⟩

/-- What `timerFits` says, as a Boolean, to evaluate it. -/
def timerFitsB (r : PointRecord) (c : PointContext) : Bool :=
  match c.state, c.timer with
  | .arming, some t => t.kind = .confirm && t.remaining ≤ r.confirm
  | .releasing, some t => t.kind = .release && t.remaining ≤ r.release
  | .arming, none | .releasing, none => false
  | .clear, t | .tripped, t | .held, t => t = none

theorem timerFits_iff (r : PointRecord) (c : PointContext) : timerFits r c ↔ timerFitsB r c = true := by
  unfold timerFits timerFitsB
  split <;> simp_all

theorem joining_votes : VoteInv (stepping joining) := by
  unfold VoteInv contextFits
  simp only [timerFits_iff]
  decide +kernel

theorem witness_StepsKeepPointStatesTrueToCounts : VoteInv (stepping joining) ∧ ∃ t, step (stepping joining) = .next t :=
  ⟨joining_votes, stepping_steps _⟩

theorem joining_derived : DerivedInv (stepping joining) := by
  refine ⟨?_, joining_verdicts, joining_votes, ?_⟩
  · unfold TableInv PointRecord.committed Staging.listOk
    decide +kernel
  · decide +kernel

theorem listening_table : TableInv listening := by
  unfold TableInv PointRecord.committed Staging.listOk
  decide +kernel

theorem listening_verdicts : VerdictInv listening := by
  unfold VerdictInv PeerInv PeerEntry.fits
  decide +kernel

/-- In LISTEN; and in JOIN with the source of station 1 written LOW and the station LIVE, which changes a standing of point 3. -/
theorem witness_UpdatesPassOneNoticeForEachChangedPoint :
    (TableInv listening ∧ VerdictInv listening ∧ listening.ctrl.station.voting = false) ∧
    (TableInv (stepping joining) ∧ VerdictInv (stepping joining) ∧ (stepping joining).ctrl.station.voting = true) ∧
    derivedStandings (stepping joining) latchedPoint ≠
      derivedStandings (((stepping joining).setSources ((stepping joining).sources.map fun e =>
        if e.key = ⟨1, 5⟩ then writtenEntry 0 (.line .low) e else e)).setPeers
          (withPeer 1 { builtPeer 0 1 with state := .live } (stepping joining).peers)) latchedPoint :=
  ⟨⟨listening_table, listening_verdicts, rfl⟩, ⟨joining_derived.1, joining_verdicts, by decide +kernel⟩, by decide +kernel⟩

theorem witness_StepsKeepStandingsDerived : DerivedInv (stepping joining) ∧ ∃ t, step (stepping joining) = .next t :=
  ⟨joining_derived, stepping_steps _⟩

theorem captured_groups : GroupInv (stepping (captured none)) := by
  have h : (stepping (captured none)).ctrl.station = .run := by decide +kernel
  unfold GroupInv
  rw [h]
  decide +kernel

theorem captured_firstOut : FirstOutInv (stepping (captured none)) := by
  unfold FirstOutInv
  decide +kernel

theorem witness_StepsKeepOutputsTrueToPoints :
    (GroupInv (stepping (captured none)) ∧ FirstOutInv (stepping (captured none))) ∧
      ∃ t, step (stepping (captured none)) = .next t := ⟨⟨captured_groups, captured_firstOut⟩, stepping_steps _⟩

end Sys2Proof.Tests
end

section
/-! The point table and its staging record: what each request of R10 to R15 does in SETUP (obligations O12 and O13). -/

namespace Sys2Proof.Points

open Sys2Proof Sys2Proof.Machine

/-! ### Requests answered by their own rule -/

/-- In SETUP a served request that SETUP takes is answered by its own rule (R177). -/
theorem takeRequest_inSetup {s : State} (hs : s.serves) (hst : s.ctrl.station = .setup) (rule : State → Verdicted) :
    takeRequest inSetup rule s = answerWith s (rule s) :=
  takeRequest_taken inSetup rule s hs.1 hs.2 (by rw [hst]; rfl)

@[simp] theorem answerWith_ok (s t : State) (results : List Byte) :
    answerWith s (.ok (results, t)) = giveAnswer (0 :: results) t := rfl

@[simp] theorem answerWith_error (s : State) (d : Denial) : answerWith s (.error d) = giveAnswer d.bytes s := rfl

/-! ### Operands out of range -/

/-- STAGE_POINT reads no draft when one of its four coded operands is out of range (R11). -/
theorem toDraft_none {m po la g : Byte} (h : 2 < po.toNat ∨ 3 < g.toNat ∨ 1 < la.toNat ∨ 7 < m.toNat) (q : Byte) (c r : Half)
    (draft : PointRecord) : toDraft q m po la g c r draft = none := by
  unfold toDraft
  split
  next hm hp hl hg =>
    rcases h with h | h | h | h
    · simp [toPolicy_none h] at hp
    · simp [toGroup_none h] at hg
    · simp [toYesNo_none h] at hl
    · simp [toDirections_none h] at hm
  next => rfl

/-- STAGE_POINT's operands in range replace every setting of the draft and keep its list (R11). -/
theorem toDraft_codes (q : Byte) (m : BitVec 3) (po : Policy) (la : Bool) (g : GroupNo) (c r : Half) (draft : PointRecord) :
    toDraft q (m.setWidth 8) po.code (boolByte la) (natByte g.val) c r draft =
      some { quorum := q.toNat, mask := m, policy := po, latched := la, contributors := draft.contributors, group := g,
             confirm := c.toNat, release := r.toNat } := by
  simp only [toDraft, toDirections_byte, toPolicy_code, toYesNo_boolByte, toGroup_natByte]

/-- STAGE_ADD names no pair when its station or its channel is out of range (R12). -/
theorem toSource_none {a c : Byte} (h : 15 < a.toNat ∨ 7 < c.toNat) : toSource a c = none := by
  unfold toSource
  split
  next ha hc =>
    rcases h with h | h
    · simp [toAddress_none h] at ha
    · simp [toChannel_none h] at hc
  next => rfl

theorem toSource_natByte (k : SourceKey) : toSource (natByte k.station.val) (natByte k.channel.val) = some k := by
  simp only [toSource, toAddress_natByte, toChannel_natByte]

/-! ### The counts of a table -/

theorem presentRecords_length (t : PointTable) :
    (presentRecords t).length = (List.finRange 24).countP fun p => t[p].isSome := by
  simp [presentRecords, List.length_filterMap_eq_countP]

theorem heldLength_eq (t : PointTable) (p : PointNo) :
    heldLength t p = (t[p].map fun r => r.contributors.length).getD 0 := by
  unfold heldLength
  cases t[p] <;> rfl

/-- The records present among some points hold as many contributors together as those points do: an absent point holds 0. -/
theorem sum_lengths_present (t : PointTable) (l : List PointNo) :
    ((l.filterMap fun p => t[p].map fun r => (p, r)).map fun e => e.2.contributors.length).sum =
      (l.map (heldLength t)).sum := by
  induction l with
  | nil => rfl
  | cons p l ih =>
    cases h : t[p] with
    | none => simp_all [heldLength_eq]
    | some r => simp_all [heldLength_eq]

theorem poolEntries_length (t : PointTable) : (poolEntries t).length = ((List.finRange 24).map (heldLength t)).sum := by
  rw [poolEntries, List.length_flatMap]
  exact sum_lengths_present t _

/-- Sorting keeps the pairs of a list. -/
theorem sortKeys_perm (l : List SourceKey) : (sortKeys l).Perm l := List.perm_insertionSort _ l

/-- A sorted list ascends by station, and by channel within a station (R2). -/
theorem sortKeys_pairwise (l : List SourceKey) : (sortKeys l).Pairwise fun a b => a.value ≤ b.value := by
  have : Std.Total fun a b : SourceKey => a.value ≤ b.value := ⟨fun a b => Nat.le_total a.value b.value⟩
  have : IsTrans SourceKey fun a b => a.value ≤ b.value := ⟨fun _ _ _ => Nat.le_trans⟩
  exact List.pairwise_insertionSort _ l

theorem distinctKeys_length (l : List SourceKey) : (distinctKeys l).length = l.toFinset.card := by
  rw [distinctKeys, ← List.card_toFinset, List.toFinset_eq_of_perm _ _ (sortKeys_perm l)]

/-- The counts the controller keeps are those of the table, counted afresh (R1). -/
theorem countTable_eq_countedOf (t : PointTable) : countTable t = countedOf t := by
  rw [countTable, countedOf, presentRecords_length, poolEntries_length, distinctKeys_length]

/-! ### The checks of COMMIT_POINT (R13) -/

theorem timeInRange_iff (t : Nat) : timeInRange t = true ↔ t ≤ 2550 ∧ t % 10 = 0 := by
  rw [timeInRange, Bool.and_eq_true, decide_eq_true_eq, beq_iff_eq, Config.timeLimit]

/-- Check 5 fails exactly when one of the two times is too long or no multiple of 10 ms. -/
theorem times_fail_iff (a b : Nat) : (timeInRange a && timeInRange b) = false ↔
    2550 < a ∨ a % 10 ≠ 0 ∨ 2550 < b ∨ b % 10 ≠ 0 := by
  rw [← Bool.not_eq_true, Bool.and_eq_true, timeInRange_iff, timeInRange_iff]
  omega

section
variable {c : Controller} {g : Staging}

theorem commitFailure_noContributors (hl : g.draft.contributors = []) : commitFailure c g = some .noContributors := by
  rw [commitFailure, if_pos hl]

theorem commitFailure_quorumRange (hl : g.draft.contributors ≠ [])
    (hq : g.draft.quorum = 0 ∨ g.draft.contributors.length < g.draft.quorum) : commitFailure c g = some .quorumRange := by
  rw [commitFailure, if_neg hl, if_pos (by omega)]

theorem commitFailure_noDirection (hl : g.draft.contributors ≠ [])
    (hq : 1 ≤ g.draft.quorum ∧ g.draft.quorum ≤ g.draft.contributors.length) (hm : g.draft.mask = 0) :
    commitFailure c g = some .noDirection := by
  rw [commitFailure, if_neg hl, if_neg (not_not.mpr hq), if_pos hm]

theorem commitFailure_timeRange (hl : g.draft.contributors ≠ [])
    (hq : 1 ≤ g.draft.quorum ∧ g.draft.quorum ≤ g.draft.contributors.length) (hm : g.draft.mask ≠ 0)
    (ht : 2550 < g.draft.confirm ∨ g.draft.confirm % 10 ≠ 0 ∨ 2550 < g.draft.release ∨ g.draft.release % 10 ≠ 0) :
    commitFailure c g = some .timeRange := by
  rw [commitFailure, if_neg hl, if_neg (not_not.mpr hq), if_neg hm, if_pos ((times_fail_iff _ _).mpr ht)]

/-- With checks 2 to 5 passed, check 6 alone decides; in integers it is the limit on the pool the commit would leave. -/
theorem commitFailure_pool (hl : g.draft.contributors ≠ [])
    (hq : 1 ≤ g.draft.quorum ∧ g.draft.quorum ≤ g.draft.contributors.length) (hm : g.draft.mask ≠ 0)
    (ht : g.draft.confirm ≤ 2550 ∧ g.draft.confirm % 10 = 0 ∧ g.draft.release ≤ 2550 ∧ g.draft.release % 10 = 0) :
    commitFailure c g =
      if (96 : Int) < (c.counts.pool : Int) - heldLength c.points g.point + g.draft.contributors.length then some .poolFull
      else none := by
  have hlimit : Config.poolLimit + heldLength c.points g.point < c.counts.pool + g.draft.contributors.length ↔
      (96 : Int) < (c.counts.pool : Int) - heldLength c.points g.point + g.draft.contributors.length := by
    rw [Config.poolLimit]
    omega
  rw [commitFailure, if_neg hl, if_neg (not_not.mpr hq), if_neg hm, if_neg (mt (times_fail_iff _ _).mp (by omega))]
  exact if_congr hlimit rfl rfl

end

/-! ### What each request does in SETUP -/

section
variable {s : State} (hs : s.serves) (hst : s.ctrl.station = .setup)
include hs hst

theorem stageBegin_point (p : PointNo) : exec (.stageBegin (natByte p.val)) s =
    .next (giveAnswer [0, boolByte s.ctrl.points[p].isSome] (setStaging (some { point := p, draft := blankDraft }) s)) := by
  change execStageBegin _ s = _
  simp only [execStageBegin, takeRequest_inSetup hs hst, toPoint_natByte, answerWith_ok]

theorem stageBegin_badOperand {b : Byte} (hb : 23 < b.toNat) :
    exec (.stageBegin b) s = .next (giveAnswer [2] s) := by
  change execStageBegin _ s = _
  simp only [execStageBegin, takeRequest_inSetup hs hst, toPoint_none hb, answerWith_error, Denial.bytes]

theorem stagePoint_badOperand {m po la g : Byte} (h : 2 < po.toNat ∨ 3 < g.toNat ∨ 1 < la.toNat ∨ 7 < m.toNat) (q : Byte)
    (c r : Half) : exec (.stagePoint q m po la g c r) s = .next (giveAnswer [2] s) := by
  change execStagePoint _ _ _ _ _ _ _ s = _
  simp only [execStagePoint, takeRequest_inSetup hs hst, toDraft_none h, answerWith_error, Denial.bytes]

theorem stageAdd_badOperand {a c : Byte} (h : 15 < a.toNat ∨ 7 < c.toNat) :
    exec (.stageAdd a c) s = .next (giveAnswer [2] s) := by
  change execStageAdd _ _ s = _
  simp only [execStageAdd, takeRequest_inSetup hs hst, toSource_none h, answerWith_error, Denial.bytes]

/-- Operands in range: refused without a staging record, else every setting of the draft replaced and its list kept (R11). -/
theorem stagePoint_codes (q : Byte) (m : BitVec 3) (po : Policy) (la : Bool) (g : GroupNo) (c r : Half) :
    exec (.stagePoint q (m.setWidth 8) po.code (boolByte la) (natByte g.val) c r) s =
      .next (match s.port.staging with
        | none => giveAnswer [6, 1] s
        | some d => giveAnswer [0] (setStaging (some {
            point := d.point
            draft := { quorum := q.toNat, mask := m, policy := po, latched := la, contributors := d.draft.contributors,
                       group := g, confirm := c.toNat, release := r.toNat } }) s)) := by
  change execStagePoint _ _ _ _ _ _ _ s = _
  simp only [execStagePoint, takeRequest_inSetup hs hst, toDraft_codes]
  cases s.port.staging <;> rfl

/-- A pair in range: the checks on record, list and length in their order, then the pair at the end of the list (R12). -/
theorem stageAdd_pair (k : SourceKey) : exec (.stageAdd (natByte k.station.val) (natByte k.channel.val)) s =
    .next (match s.port.staging with
      | none => giveAnswer [6, 1] s
      | some d =>
        if k ∈ d.draft.contributors then giveAnswer [5] s
        else if 8 ≤ d.draft.contributors.length then giveAnswer [4] s
        else giveAnswer [0, natByte (d.draft.contributors.length + 1)]
          (setStaging (some { d with draft := { d.draft with contributors := d.draft.contributors ++ [k] } }) s)) := by
  change execStageAdd _ _ s = _
  simp only [execStageAdd, takeRequest_inSetup hs hst, toSource_natByte, List.contains_iff_mem, Config.listLimit]
  cases s.port.staging with
  | none => rfl
  | some d =>
    by_cases hk : k ∈ d.draft.contributors
    · simp only [hk, if_true, answerWith_error, Denial.bytes]
    · by_cases hfull : 8 ≤ d.draft.contributors.length
      · simp only [hk, hfull, if_true, if_false, answerWith_error, Denial.bytes]
      · simp only [hk, hfull, if_false, answerWith_ok, List.length_append, List.length_singleton]

theorem commitPoint_notStaged (h : s.port.staging = none) : exec .commitPoint s = .next (giveAnswer [6, 1] s) := by
  change execCommitPoint s = _
  simp only [execCommitPoint, takeRequest_inSetup hs hst, h, answerWith_error, Denial.bytes, RejectCode.code]

theorem commitPoint_rejected {d : Staging} {r : RejectCode} (h : s.port.staging = some d)
    (hf : commitFailure s.ctrl d = some r) : exec .commitPoint s = .next (giveAnswer [6, r.code] s) := by
  change execCommitPoint s = _
  simp only [execCommitPoint, takeRequest_inSetup hs hst, h, hf, answerWith_error, Denial.bytes]

/-- A commit places the record with its list sorted, counts the table and empties the staging record (R14). -/
theorem commitPoint_placed {d : Staging} (h : s.port.staging = some d) (hf : commitFailure s.ctrl d = none) {t : PointTable}
    (ht : t = setAt s.ctrl.points d.point (some (committedRecord d))) : exec .commitPoint s =
      .next (giveAnswer (0 :: (countedOf t).bytes)
        (setStaging none (s.setCtrl { s.ctrl with points := t, counts := countedOf t }))) := by
  change execCommitPoint s = _
  simp only [execCommitPoint, takeRequest_inSetup hs hst, h, hf, answerWith_ok, Controller.withTable, countTable_eq_countedOf, ht]

theorem dropPoint_badOperand {b : Byte} (hb : 23 < b.toNat) : exec (.dropPoint b) s = .next (giveAnswer [2] s) := by
  change execDropPoint _ s = _
  simp only [execDropPoint, takeRequest_inSetup hs hst, toPoint_none hb, answerWith_error, Denial.bytes]

theorem dropPoint_absent {p : PointNo} (h : s.ctrl.points[p] = none) :
    exec (.dropPoint (natByte p.val)) s = .next (giveAnswer [6, 7] s) := by
  change execDropPoint _ s = _
  simp only [execDropPoint, takeRequest_inSetup hs hst, toPoint_natByte, h]
  rfl

/-- A drop removes the record and counts the table; the staging record stays (R15). -/
theorem dropPoint_present {p : PointNo} (h : s.ctrl.points[p].isSome = true) {t : PointTable}
    (ht : t = setAt s.ctrl.points p none) : exec (.dropPoint (natByte p.val)) s =
      .next (giveAnswer (0 :: (countedOf t).bytes) (s.setCtrl { s.ctrl with points := t, counts := countedOf t })) := by
  change execDropPoint _ s = _
  simp only [execDropPoint, takeRequest_inSetup hs hst, toPoint_natByte, if_pos h, answerWith_ok, Controller.withTable,
    countTable_eq_countedOf, ht]

end

/-! ### The obligations -/

/-- Settles O13: the checks of R13 one by one through `commitFailure`, then the placement (R14) and the drop (R15), whose counts
are `countedOf` by `countTable_eq_countedOf`. -/
theorem commitAndDropChangeTheTable : Obligations.CommitAndDropChangeTheTable := by
  intro s hs hst
  refine ⟨commitPoint_notStaged hs hst, fun d hd => ⟨fun hl => ?noContributors, fun hl => ⟨fun hq => ?quorum, fun hq =>
    ⟨fun hm => ?direction, fun hm => ⟨fun ht => ?time, fun ht => ⟨fun hp => ?pool, fun hp => ?placed⟩⟩⟩⟩⟩,
    fun b => dropPoint_badOperand hs hst, fun p => ⟨dropPoint_absent hs hst, fun h => ⟨_, rfl, dropPoint_present hs hst h rfl⟩⟩⟩
  case noContributors => exact commitPoint_rejected hs hst hd (commitFailure_noContributors hl)
  case quorum => exact commitPoint_rejected hs hst hd (commitFailure_quorumRange hl hq)
  case direction => exact commitPoint_rejected hs hst hd (commitFailure_noDirection hl hq hm)
  case time => exact commitPoint_rejected hs hst hd (commitFailure_timeRange hl hq hm ht)
  case pool => exact commitPoint_rejected hs hst hd ((commitFailure_pool hl hq hm ht).trans (if_pos hp))
  case placed =>
    have hf : commitFailure s.ctrl d = none := (commitFailure_pool hl hq hm ht).trans (if_neg (not_lt.mpr hp))
    exact ⟨sortKeys d.draft.contributors, _, sortKeys_perm _, sortKeys_pairwise _, rfl, commitPoint_placed hs hst hd hf rfl⟩

/-- Settles O12: each request by its operands in range and out of range. -/
theorem stagingRequestsBuildTheRecord : Obligations.StagingRequestsBuildTheRecord := fun _ hs hst =>
  ⟨stageBegin_point hs hst, fun _ => stageBegin_badOperand hs hst,
    fun q _ _ _ _ c r h => stagePoint_badOperand hs hst h q c r, stagePoint_codes hs hst,
    fun _ _ => stageAdd_badOperand hs hst, stageAdd_pair hs hst⟩

end Sys2Proof.Points
end

section
/-! The standing of a contributor: the state of its source's station first (R33), then the verdict through the direction mask
(R34) (obligation O27). -/

namespace Sys2Proof.Standings

open Sys2Proof.Machine

/-- R33, first step: the verdict of a station in SELF, LIVE or GAPPED counts. -/
theorem standingOf_counting {p : PeerState} (hp : p = .self ∨ p = .live ∨ p = .gapped) (v : Verdict) (m : BitVec 3) :
    standingOf p v m = standingOfVerdict m v := by
  obtain rfl | rfl | rfl := hp <;> rfl

/-- R33, first step: the verdict of a station in UNHEARD, SILENT or EXCLUDED does not count. -/
theorem standingOf_absent {p : PeerState} (hp : p = .unheard ∨ p = .silent ∨ p = .excluded) (v : Verdict) (m : BitVec 3) :
    standingOf p v m = .unavailable := by
  obtain rfl | rfl | rfl := hp <;> rfl

/-- R34, the rows the direction mask decides: LOW, HIGH and BAND; NORMAL, which no mask holds, gives NORMAL as well. -/
theorem standingOfVerdict_masked {v : LineVerdict} (hv : v = .low ∨ v = .high ∨ v = .band ∨ v = .normal) (m : BitVec 3) :
    standingOfVerdict m (.line v) = if maskHolds m v then .excursion else .normal := by
  obtain rfl | rfl | rfl | rfl := hv <;> rfl

/-- R34, the rows no mask decides: FAULT, OFF, UNSETTLED and UNKNOWN. -/
theorem standingOfVerdict_unavailable {v : Verdict}
    (hv : v = .line .fault ∨ v = .line .off ∨ v = .line .unsettled ∨ v = .unknown) (m : BitVec 3) :
    standingOfVerdict m v = .unavailable := by
  obtain rfl | rfl | rfl | rfl := hv <;> rfl

/-- Settles O27: R33 decides whether the verdict counts at all, and where it does R34 gives its standing row by row. -/
theorem verdictsGiveStandings : Obligations.VerdictsGiveStandings := by
  refine ⟨fun m p hp => ?counting, fun m p v hp => standingOf_absent hp v m⟩
  case counting =>
    have masked (v : LineVerdict) (hv : v = .low ∨ v = .high ∨ v = .band ∨ v = .normal) :
        standingOf p (.line v) m = if maskHolds m v then .excursion else .normal :=
      (standingOf_counting hp _ m).trans (standingOfVerdict_masked hv m)
    have unavailable (v : Verdict) (hv : v = .line .fault ∨ v = .line .off ∨ v = .line .unsettled ∨ v = .unknown) :
        standingOf p v m = .unavailable :=
      (standingOf_counting hp v m).trans (standingOfVerdict_unavailable hv m)
    exact ⟨masked .low (by simp), masked .high (by simp), masked .band (by simp), masked .normal (by simp),
      unavailable _ (by simp), unavailable _ (by simp), unavailable _ (by simp), unavailable _ (by simp)⟩

end Sys2Proof.Standings
end

section
/-! READ_POINT and READ_POINT_RECORD: the vote of a point (R64) and the items of its record (R182) (obligation O19). -/

namespace Sys2Proof.PointReads

open Sys2Proof Sys2Proof.Machine Sys2Proof.Points

/-! ### Requests taken in every state but VALIDATING -/

theorem notValidating_iff (st : StationState) : notValidating st = true ↔ st ≠ .reset ∧ st ≠ .validating := by
  cases st <;> simp [notValidating]

/-- Outside VALIDATING a served request that only VALIDATING turns away is answered by its own rule (R177). -/
theorem takeRequest_notValidating {s : State} (hs : s.serves) (hst : s.ctrl.station ≠ .validating) (rule : State → Verdicted) :
    takeRequest notValidating rule s = answerWith s (rule s) :=
  takeRequest_taken notValidating rule s hs.1 hs.2 ((notValidating_iff _).mpr ⟨hs.1, hst⟩)

/-- In VALIDATING such a request is answered BUSY (R177). -/
theorem takeRequest_validating {s : State} (hs : s.serves) (hst : s.ctrl.station = .validating) (rule : State → Verdicted) :
    takeRequest notValidating rule s = giveAnswer [3] s := by
  rw [takeRequest_denied notValidating rule s hs.1 hs.2 (by rw [hst]; rfl), if_pos hst]

/-! ### The vote of a point (R64) -/

section
variable {s : State} {p : PointNo}

theorem pointBytes_absent (h : s.ctrl.points[p] = none) : pointBytes s p = List.replicate 9 0 := by
  unfold pointBytes
  rw [h]
  rfl

/-- A present point before the build has made its context reads as CLEAR with all counts 0. -/
theorem pointBytes_noContext {r : PointRecord} (h : s.ctrl.points[p] = some r) (hc : s.contexts[p] = none) :
    pointBytes s p = 1 :: List.replicate 8 0 := by
  unfold pointBytes
  rw [h, hc]
  rfl

theorem remaining_eq (c : PointContext) : c.remaining = (c.timer.map (·.remaining)).getD 0 := by
  unfold PointContext.remaining
  cases c.timer <;> rfl

theorem pointBytes_context {r : PointRecord} {c : PointContext} (h : s.ctrl.points[p] = some r)
    (hc : s.contexts[p] = some c) :
    pointBytes s p = [1, c.state.code, natByte c.excursions, natByte c.normals, natByte c.unavailables, natByte c.count,
      natByte c.effectiveQuorum] ++ natHalfBytes ((c.timer.map (·.remaining)).getD 0) := by
  unfold pointBytes
  rw [h, hc, ← remaining_eq]

end

/-! ### The items of a record (R182) -/

@[simp] theorem recordItem_header (o : Option PointRecord) : recordItem o 0 = some (headerBytes o) := rfl

/-- An index names a contributor from 1 to 8 alone. -/
theorem recordItem_contributor (o : Option PointRecord) {k : Nat} (hk : k ≠ 0) :
    recordItem o k = if 8 < k then none else contributorBytes o k := by
  rw [recordItem, if_neg hk]
  by_cases h : k ≤ 8
  · rw [if_pos h, if_neg (not_lt.mpr h)]
  · rw [if_neg h, if_pos (not_le.mp h)]

theorem recordItem_absent {k : Nat} (hk : k ≠ 0) : recordItem none k = none := by
  rw [recordItem_contributor none hk]
  exact ite_self _

/-! ### What each read answers -/

section
variable {s : State} (hs : s.serves)
include hs

section
variable (hst : s.ctrl.station = .validating)
include hst

theorem readPoint_validating (b : Byte) : exec (.readPoint b) s = .next (giveAnswer [3] s) :=
  congrArg Host.Outcome.next (takeRequest_validating hs hst _)

theorem readPointRecord_validating (b k : Byte) : exec (.readPointRecord b k) s = .next (giveAnswer [3] s) :=
  congrArg Host.Outcome.next (takeRequest_validating hs hst _)

end

variable (hst : s.ctrl.station ≠ .validating)
include hst

theorem readPoint_badOperand {b : Byte} (hb : 23 < b.toNat) : exec (.readPoint b) s = .next (giveAnswer [2] s) := by
  change execReadPoint _ s = _
  simp only [execReadPoint, takeRequest_notValidating hs hst, toPoint_none hb, answerWith_error, Denial.bytes]

theorem readPoint_point (p : PointNo) :
    exec (.readPoint (natByte p.val)) s = .next (giveAnswer (0 :: pointBytes s p) s) := by
  change execReadPoint _ s = _
  simp only [execReadPoint, takeRequest_notValidating hs hst, toPoint_natByte, answerWith_ok]

theorem readPointRecord_badOperand {b : Byte} (hb : 23 < b.toNat) (k : Byte) :
    exec (.readPointRecord b k) s = .next (giveAnswer [2] s) := by
  change execReadPointRecord _ _ s = _
  simp only [execReadPointRecord, takeRequest_notValidating hs hst, toPoint_none hb, answerWith_error, Denial.bytes]

theorem readPointRecord_item {p : PointNo} {k : Byte} {l : List Byte} (h : recordItem s.ctrl.points[p] k.toNat = some l) :
    exec (.readPointRecord (natByte p.val) k) s = .next (giveAnswer (0 :: l) s) := by
  change execReadPointRecord _ _ s = _
  simp only [execReadPointRecord, takeRequest_notValidating hs hst, toPoint_natByte, h, answerWith_ok]

theorem readPointRecord_noItem {p : PointNo} {k : Byte} (h : recordItem s.ctrl.points[p] k.toNat = none) :
    exec (.readPointRecord (natByte p.val) k) s = .next (giveAnswer [2] s) := by
  change execReadPointRecord _ _ s = _
  simp only [execReadPointRecord, takeRequest_notValidating hs hst, toPoint_natByte, h, answerWith_error, Denial.bytes]

/-- Index 0 answers the header of the record, of an absent point as well. -/
theorem readPointRecord_header (p : PointNo) :
    exec (.readPointRecord (natByte p.val) 0) s = .next (giveAnswer (0 :: headerBytes s.ctrl.points[p]) s) :=
  readPointRecord_item hs hst (recordItem_header _)

/-- Index k from 1 on answers the contributor at position k − 1, and BAD_OPERAND above 8 or beyond the list. -/
theorem readPointRecord_contributor {p : PointNo} {r : PointRecord} (h : s.ctrl.points[p] = some r) {k : Byte}
    (hk : k.toNat ≠ 0) : exec (.readPointRecord (natByte p.val) k) s = .next (
      if 8 < k.toNat then giveAnswer [2] s
      else match r.contributors[k.toNat - 1]? with
        | some q => giveAnswer [0, natByte q.station.val, natByte q.channel.val] s
        | none => giveAnswer [2] s) := by
  have hitem : recordItem s.ctrl.points[p] k.toNat = if 8 < k.toNat then none else contributorBytes (some r) k.toNat := by
    rw [h, recordItem_contributor _ hk]
  by_cases h8 : 8 < k.toNat
  · rw [if_pos h8] at hitem ⊢
    exact readPointRecord_noItem hs hst hitem
  · rw [if_neg h8, contributorBytes] at hitem
    rw [if_neg h8]
    cases hq : r.contributors[k.toNat - 1]? with
    | none => exact readPointRecord_noItem hs hst (by rw [hitem, hq]; rfl)
    | some q => exact readPointRecord_item hs hst (by rw [hitem, hq]; rfl)

end

/-- Settles O19: BUSY in VALIDATING; elsewhere a point above 23, then an absent point and a present one, index 0 and the rest. -/
theorem pointReadsReturnVoteAndRecord : Obligations.PointReadsReturnVoteAndRecord := by
  intro s hs
  refine ⟨fun hst b k => ⟨readPoint_validating hs hst b, readPointRecord_validating hs hst b k⟩, fun hst =>
    ⟨fun b hb => ⟨readPoint_badOperand hs hst hb, readPointRecord_badOperand hs hst hb⟩, fun p => ⟨fun h => ?absent,
      fun r h => ?present⟩⟩⟩
  case absent =>
    refine ⟨?_, ?_, fun k hk => ?_⟩
    · rw [readPoint_point hs hst, pointBytes_absent h]
    · rw [readPointRecord_header hs hst, h]
      rfl
    · exact readPointRecord_noItem hs hst (by rw [h, recordItem_absent (BitVec.toNat_ne.mp hk)])
  case present =>
    refine ⟨fun hc => ?_, fun c hc => ?_, ?_, fun k hk => ?_⟩
    · rw [readPoint_point hs hst, pointBytes_noContext h hc]
    · rw [readPoint_point hs hst, pointBytes_context h hc]
      rfl
    · rw [readPointRecord_header hs hst, h]
      rfl
    · exact readPointRecord_contributor hs hst h (BitVec.toNat_ne.mp hk)

end Sys2Proof.PointReads
end

section
/-! SET_GROUP: both settings of one group record together, or an answer that loads none (R66, obligation O11). -/

namespace Sys2Proof.GroupSettings

open Sys2Proof Sys2Proof.Machine Sys2Proof.Points

/-! ### The operands of SET_GROUP -/

@[simp] theorem toFailAction_code (f : FailAction) : toFailAction (if f = .hold then 1 else 0) = some f := by cases f <;> rfl

@[simp] theorem toStartState_code (u : StartState) : toStartState (if u = .asserted then 1 else 0) = some u := by
  cases u <;> rfl

theorem toFailAction_none {b : Byte} (h : 1 < b.toNat) : toFailAction b = none := by
  unfold toFailAction
  split
  next h0 => omega
  next h1 => omega
  next => rfl

theorem toStartState_none {b : Byte} (h : 1 < b.toNat) : toStartState b = none := by
  unfold toStartState
  split
  next h0 => omega
  next h1 => omega
  next => rfl

/-! ### Requests that SETUP alone takes -/

theorem inSetup_eq_false_iff (st : StationState) : inSetup st = false ↔ st ≠ .setup := by
  cases st <;> simp [inSetup]

/-- Outside SETUP a served request that SETUP alone takes is answered BUSY or WRONG_STATE, before its operands are read
(R177). -/
theorem takeRequest_notInSetup {s : State} (hs : s.serves) (hst : s.ctrl.station ≠ .setup) (rule : State → Verdicted) :
    takeRequest inSetup rule s = giveAnswer [if s.ctrl.station = .validating then 3 else 1] s :=
  takeRequest_denied inSetup rule s hs.1 hs.2 ((inSetup_eq_false_iff _).mpr hst)

/-! ### What SET_GROUP answers -/

section
variable {s : State} (hs : s.serves)
include hs

theorem setGroup_loads (hst : s.ctrl.station = .setup) (g : GroupNo) (f : FailAction) (u : StartState) :
    exec (.setGroup (natByte g.val) (if f = .hold then 1 else 0) (if u = .asserted then 1 else 0)) s =
      .next (giveAnswer [0] (setGroupRecord g { s.trip.groups[g] with failAction := f, startState := u } s)) := by
  change execSetGroup _ _ _ s = _
  simp only [execSetGroup, takeRequest_inSetup hs hst, toGroup_natByte, toFailAction_code, toStartState_code, answerWith_ok]

theorem setGroup_badOperand (hst : s.ctrl.station = .setup) {g f u : Byte}
    (h : 3 < g.toNat ∨ 1 < f.toNat ∨ 1 < u.toNat) : exec (.setGroup g f u) s = .next (giveAnswer [2] s) := by
  change execSetGroup _ _ _ s = _
  rw [execSetGroup, takeRequest_inSetup hs hst]
  split
  next hg hf hu =>
    rcases h with h | h | h
    · simp [toGroup_none h] at hg
    · simp [toFailAction_none h] at hf
    · simp [toStartState_none h] at hu
  next => rfl

theorem setGroup_denied (hst : s.ctrl.station ≠ .setup) (g f u : Byte) :
    exec (.setGroup g f u) s = .next (giveAnswer [if s.ctrl.station = .validating then 3 else 1] s) :=
  congrArg Host.Outcome.next (takeRequest_notInSetup hs hst _)

end

/-- Settles O11: in SETUP the operands load or are refused; outside it the state decides between BUSY and WRONG_STATE. -/
theorem setGroupLoadsBothSettings : Obligations.SetGroupLoadsBothSettings := by
  intro s hs
  refine ⟨fun g f u hst => setGroup_loads hs hst g f u, fun g f u hst h => setGroup_badOperand hs hst h,
    fun g f u hv => ?validating, fun g f u hst hv => ?wrongState⟩
  case validating =>
    have hst : s.ctrl.station ≠ .setup := by simp [hv]
    rw [setGroup_denied hs hst, if_pos hv]
  case wrongState => rw [setGroup_denied hs hst, if_neg hv]

end Sys2Proof.GroupSettings
end

section
/-! SET_CHANNEL and SET_PROFILE: the settings of one channel and of one window profile loaded together, or an answer that loads
none; the channel settings after the resets (R85, R86, obligation O10). -/

namespace Sys2Proof.ClassifierSettings

open Sys2Proof Sys2Proof.Machine Sys2Proof.Points Sys2Proof.GroupSettings

/-! ### The operands of SET_PROFILE -/

@[simp] theorem toSense_code (se : Sense) : toSense (if se = .inside then 1 else 0) = some se := by cases se <;> rfl

theorem toSense_none {b : Byte} (h : 1 < b.toNat) : toSense b = none := by
  unfold toSense
  split
  next h0 => omega
  next h1 => omega
  next => rfl

theorem toCode_some {w : Half} (h : w.toNat ≤ 4095) : toCode w = some w.toNat := if_pos (Nat.lt_succ_of_le h)

theorem toCode_none {w : Half} (h : 4095 < w.toNat) : toCode w = none := if_neg (Nat.not_lt_of_ge h)

theorem toPersistence_some {b : Byte} (h1 : 1 ≤ b.toNat) (h15 : b.toNat ≤ 15) : toPersistence b = some b.toNat :=
  if_pos ⟨h1, h15⟩

theorem toPersistence_none {b : Byte} (h : b.toNat = 0 ∨ 15 < b.toNat) : toPersistence b = none := if_neg (by omega)

/-- The fields read no profile when one of the seven is out of range; the hysteresis has no range of its own (R86). -/
theorem toProfileFields_none {fl l h fh : Half} {n se : Byte}
    (hout : 4095 < fl.toNat ∨ 4095 < l.toNat ∨ 4095 < h.toNat ∨ 4095 < fh.toNat ∨ n.toNat = 0 ∨ 15 < n.toNat ∨ 1 < se.toNat)
    (hy : Byte) : toProfileFields fl l h fh hy n se = none := by
  unfold toProfileFields
  split
  next hfl hl hh hfh hn hse =>
    rcases hout with hout | hout | hout | hout | hout | hout | hout
    · simp [toCode_none hout] at hfl
    · simp [toCode_none hout] at hl
    · simp [toCode_none hout] at hh
    · simp [toCode_none hout] at hfh
    · simp [toPersistence_none (.inl hout)] at hn
    · simp [toPersistence_none (.inr hout)] at hn
    · simp [toSense_none hout] at hse
  next => rfl

theorem toProfileFields_codes {fl l h fh : Half} {n : Byte} (hfl : fl.toNat ≤ 4095) (hl : l.toNat ≤ 4095)
    (hh : h.toNat ≤ 4095) (hfh : fh.toNat ≤ 4095) (hn1 : 1 ≤ n.toNat) (hn15 : n.toNat ≤ 15) (hy : Byte) (se : Sense) :
    toProfileFields fl l h fh hy n (if se = .inside then 1 else 0) =
      some { faultLow := fl.toNat, low := l.toNat, high := h.toNat, faultHigh := fh.toNat, hysteresis := hy.toNat,
             persistence := n.toNat, sense := se } := by
  simp only [toProfileFields, toCode_some hfl, toCode_some hl, toCode_some hh, toCode_some hfh, toPersistence_some hn1 hn15,
    toSense_code]

/-! ### What each request answers -/

section
variable {s : State} (hs : s.serves)
include hs

theorem setChannel_denied (hst : s.ctrl.station ≠ .setup) (c e p : Byte) :
    exec (.setChannel c e p) s = .next (giveAnswer [if s.ctrl.station = .validating then 3 else 1] s) :=
  congrArg Host.Outcome.next (takeRequest_notInSetup hs hst _)

theorem setProfile_denied (hst : s.ctrl.station ≠ .setup) (p : Byte) (fl l h fh : Half) (hy n se : Byte) :
    exec (.setProfile p fl l h fh hy n se) s = .next (giveAnswer [if s.ctrl.station = .validating then 3 else 1] s) :=
  congrArg Host.Outcome.next (takeRequest_notInSetup hs hst _)

variable (hst : s.ctrl.station = .setup)
include hst

theorem setChannel_loads (c : Channel) (e : Bool) (p : ProfileNo) :
    exec (.setChannel (natByte c.val) (boolByte e) (natByte p.val)) s = .next (giveAnswer [0] (s.setChan { s.chan with
      channels := setAt s.chan.channels c { s.chan.channels[c] with enabled := e, profile := p } })) := by
  change execSetChannel _ _ _ s = _
  simp only [execSetChannel, takeRequest_inSetup hs hst, toChannel_natByte, toYesNo_boolByte, toProfile_natByte, answerWith_ok]

theorem setChannel_badOperand {c e p : Byte} (h : 7 < c.toNat ∨ 1 < e.toNat ∨ 7 < p.toNat) :
    exec (.setChannel c e p) s = .next (giveAnswer [2] s) := by
  change execSetChannel _ _ _ s = _
  rw [execSetChannel, takeRequest_inSetup hs hst]
  split
  next hc he hp =>
    rcases h with h | h | h
    · simp [toChannel_none h] at hc
    · simp [toYesNo_none h] at he
    · simp [toProfile_none h] at hp
  next => rfl

/-- Fields in range replace the whole profile: R86 checks no order among the limits. -/
theorem setProfile_loads (p : ProfileNo) {fl l h fh : Half} {hy n se : Byte} {f : Profile}
    (hf : toProfileFields fl l h fh hy n se = some f) : exec (.setProfile (natByte p.val) fl l h fh hy n se) s =
      .next (giveAnswer [0] (s.setChan { s.chan with profiles := setAt s.chan.profiles p f })) := by
  change execSetProfile _ _ _ _ _ _ _ _ s = _
  simp only [execSetProfile, takeRequest_inSetup hs hst, toProfile_natByte, hf, answerWith_ok]

theorem setProfile_badOperand {p : Byte} {fl l h fh : Half} {hy n se : Byte}
    (hout : toProfile p = none ∨ toProfileFields fl l h fh hy n se = none) :
    exec (.setProfile p fl l h fh hy n se) s = .next (giveAnswer [2] s) := by
  change execSetProfile _ _ _ _ _ _ _ _ s = _
  rw [execSetProfile, takeRequest_inSetup hs hst]
  split
  next hp hf =>
    rcases hout with hout | hout
    · simp [hout] at hp
    · simp [hout] at hf
  next => rfl

end

/-! ### The channel settings after the resets (R85) -/

/-- A low pulse on RST of 10 µs or more is sure to be taken (R160). -/
theorem rstLow_taken {m : Nat} (hm : 10 ≤ m) (s : State) : exec (.rstLow m) s = .next (takeReset s) :=
  congrArg Host.Outcome.next (if_pos hm)

/-- Power-on and a low pulse on RST of 10 µs or more bring the classifier to its power-on value. -/
theorem classifier_after_reset {s t : State}
    (h : exec .powerOn s = .next t ∨ ∃ m, 10 ≤ m ∧ exec (.rstLow m) s = .next t) : t.chan = .powerOn := by
  rcases h with h | ⟨m, hm, h⟩
  · cases h
    rfl
  · rw [rstLow_taken hm] at h
    cases h
    rfl

/-- RESTART brings the classifier to its value at SETUP entry where it is taken, and leaves it alone where it is not. -/
theorem classifier_after_restart {s t : State} (h : exec .restart s = .next t) :
    t.chan = s.chan ∨ t.chan = s.chan.atSetupEntry := by
  have ht : takeRequest always (fun s => .ok ([], enterSetup s)) s = t := Host.Outcome.next.inj h
  have hcases := takeRequest_cases always (fun s => .ok ([], enterSetup s)) s
  rw [ht] at hcases
  obtain rfl | ⟨d, rfl⟩ | ⟨-, results, u, hu, rfl⟩ := hcases
  · exact .inl rfl
  · exact .inl rfl
  · cases hu
    exact .inr rfl

theorem powerOn_channels (c : Channel) : Classifier.powerOn.channels[c] = .powerOn := by simp [Classifier.powerOn]

theorem atSetupEntry_channels (k : Classifier) (c : Channel) : k.atSetupEntry.channels[c] = k.channels[c].atSetupEntry := by
  simp [Classifier.atSetupEntry]

/-- Settles O10: each request loads in SETUP, refuses an operand out of range and is turned away elsewhere; the resets by what
each leaves in the classifier. -/
theorem classifierSettingsAreLoaded : Obligations.ClassifierSettingsAreLoaded := by
  refine ⟨fun s hs => ⟨fun c e p hst => setChannel_loads hs hst c e p, fun c e p hst h => setChannel_badOperand hs hst h,
    fun c e p hst => setChannel_denied hs hst c e p, ?profileLoads, fun p fl l h fh hy n se hst hout => ?profileOperands,
    fun p fl l h fh hy n se hst => setProfile_denied hs hst p fl l h fh hy n se⟩, fun s t h c => ?reset, fun s t h c => ?restart⟩
  case profileLoads =>
    intro p fl l h fh hy n se hst hfl hl hh hfh hn1 hn15
    exact setProfile_loads hs hst p (toProfileFields_codes hfl hl hh hfh hn1 hn15 hy se)
  case profileOperands => exact setProfile_badOperand hs hst (hout.imp toProfile_none (toProfileFields_none · hy))
  case reset =>
    rw [classifier_after_reset h, powerOn_channels]
    exact ⟨rfl, rfl⟩
  case restart =>
    rcases classifier_after_restart h with hk | hk
    · rw [hk]
      exact ⟨rfl, rfl⟩
    · rw [hk, atSetupEntry_channels]
      exact ⟨rfl, rfl⟩

end Sys2Proof.ClassifierSettings
end

section
/-! START: from SETUP into VALIDATING, or an answer that changes nothing else (R162, obligation O14). -/

namespace Sys2Proof.Starting

open Sys2Proof Sys2Proof.Machine Sys2Proof.Points Sys2Proof.GroupSettings

section
variable {s : State} (hs : s.serves)
include hs

theorem start_entersValidating (hst : s.ctrl.station = .setup) :
    exec .start s = .next (giveAnswer [0] (s.setCtrl { s.ctrl with station := .validating, rejection := .clear })) := by
  change execStart s = _
  rw [execStart, takeRequest_inSetup hs hst, answerWith_ok]

theorem start_denied (hst : s.ctrl.station ≠ .setup) :
    exec .start s = .next (giveAnswer [if s.ctrl.station = .validating then 3 else 1] s) :=
  congrArg Host.Outcome.next (takeRequest_notInSetup hs hst _)

end

/-- Settles O14: SETUP takes the START by its own rule; outside it the state decides between BUSY and WRONG_STATE. -/
theorem startEntersValidating : Obligations.StartEntersValidating := by
  intro s hs
  refine ⟨start_entersValidating hs, fun hv => ?validating, fun hst hv => ?wrongState⟩
  case validating =>
    have hst : s.ctrl.station ≠ .setup := by simp [hv]
    rw [start_denied hs hst, if_pos hv]
  case wrongState => rw [start_denied hs hst, if_neg hv]

end Sys2Proof.Starting
end

section
/-! The event flags, the mask and the level of INT: what READ_EVENTS and SET_EVENT_MASK answer, and what the resets leave of the
mask (R184 to R186, obligation O22). -/

namespace Sys2Proof.Events

open Sys2Proof Sys2Proof.Machine Sys2Proof.Points Sys2Proof.PointReads Sys2Proof.ClassifierSettings

/-! ### The operand of SET_EVENT_MASK -/

@[simp] theorem toEventMask_byte (m : BitVec 7) : toEventMask (m.setWidth 8) = some m := by
  have hlt : (m.setWidth 8).toNat < 128 := by
    rw [BitVec.toNat_setWidth_of_le (by decide)]
    exact m.isLt
  rw [toEventMask, if_pos hlt, BitVec.setWidth_setWidth_of_le m (by decide), BitVec.setWidth_eq]

theorem toEventMask_none {b : Byte} (h : 127 < b.toNat) : toEventMask b = none := if_neg (Nat.not_lt_of_ge h)

/-! ### What each request answers -/

section
variable {s : State} (hs : s.serves)
include hs

section
variable (hst : s.ctrl.station = .validating)
include hst

theorem readEvents_validating : exec .readEvents s = .next (giveAnswer [3] s) :=
  congrArg Host.Outcome.next (takeRequest_validating hs hst _)

theorem setEventMask_validating (b : Byte) : exec (.setEventMask b) s = .next (giveAnswer [3] s) :=
  congrArg Host.Outcome.next (takeRequest_validating hs hst _)

end

variable (hst : s.ctrl.station ≠ .validating)
include hst

theorem readEvents_clears : exec .readEvents s =
    .next (giveAnswer [0, s.port.flags.setWidth 8] (s.setPort { s.port with flags := 0 })) := by
  change execReadEvents s = _
  rw [execReadEvents, takeRequest_notValidating hs hst, answerWith_ok]

theorem setEventMask_loads (m : BitVec 7) :
    exec (.setEventMask (m.setWidth 8)) s = .next (giveAnswer [0] (s.setPort { s.port with mask := m })) := by
  change execSetEventMask _ s = _
  simp only [execSetEventMask, takeRequest_notValidating hs hst, toEventMask_byte, answerWith_ok]

theorem setEventMask_badOperand {b : Byte} (hb : 127 < b.toNat) :
    exec (.setEventMask b) s = .next (giveAnswer [2] s) := by
  change execSetEventMask _ s = _
  simp only [execSetEventMask, takeRequest_notValidating hs hst, toEventMask_none hb, answerWith_error, Denial.bytes]

end

/-! ### The level of INT (R185) -/

/-- Two sets of bits meet exactly where both hold one and the same bit. -/
theorem and_ne_zero_iff {w : Nat} (x y : BitVec w) :
    x &&& y ≠ 0#w ↔ ∃ i : Fin w, x.getLsbD i.val = true ∧ y.getLsbD i.val = true := by
  constructor
  · intro h
    by_contra hnone
    refine h (BitVec.eq_of_getLsbD_eq fun i hi => ?_)
    have hi' : ¬(x.getLsbD i = true ∧ y.getLsbD i = true) := fun hxy => hnone ⟨⟨i, hi⟩, hxy⟩
    simpa using hi'
  · rintro ⟨i, hx, hy⟩ h0
    have hbit : (x &&& y).getLsbD i.val = true := by rw [BitVec.getLsbD_and, hx, hy]; rfl
    simp [h0] at hbit

theorem intLow_iff (s : State) :
    s.intLow = true ↔ ∃ i : Fin 7, s.port.flags.getLsbD i.val = true ∧ s.port.mask.getLsbD i.val = true := by
  rw [State.intLow, bne_iff_ne, and_ne_zero_iff]

/-! ### The mask after the resets (R184) -/

/-- Power-on and a low pulse on RST of 10 µs or more bring the setup port to its power-on value. -/
theorem port_after_reset {s t : State}
    (h : exec .powerOn s = .next t ∨ ∃ m, 10 ≤ m ∧ exec (.rstLow m) s = .next t) : t.port = .powerOn := by
  rcases h with h | ⟨m, hm, h⟩
  · cases h
    rfl
  · rw [rstLow_taken hm] at h
    cases h
    rfl

/-- RESTART keeps the mask, whether it is taken, turned away or not served. -/
theorem mask_after_restart {s t : State} (h : exec .restart s = .next t) : t.port.mask = s.port.mask := by
  have ht : takeRequest always (fun s => .ok ([], enterSetup s)) s = t := Host.Outcome.next.inj h
  have hcases := takeRequest_cases always (fun s => .ok ([], enterSetup s)) s
  rw [ht] at hcases
  obtain rfl | ⟨d, rfl⟩ | ⟨-, results, u, hu, rfl⟩ := hcases
  · rfl
  · rfl
  · cases hu
    rfl

/-- Settles O22: each request by the state that serves it, INT by the bits that flags and mask share, the resets by what each
leaves of the setup port. -/
theorem eventFlagsMaskAndInt : Obligations.EventFlagsMaskAndInt := by
  refine ⟨fun s hs => ⟨fun hst => ?served, fun hv => ?validating⟩, intLow_iff, fun s t h => ?reset,
    fun s t => mask_after_restart⟩
  case served =>
    exact ⟨readEvents_clears hs hst, setEventMask_loads hs hst, fun b => setEventMask_badOperand hs hst⟩
  case validating => exact ⟨readEvents_validating hs hv, setEventMask_validating hs hv⟩
  case reset =>
    rw [port_after_reset h]
    rfl

end Sys2Proof.Events
end

section
/-! What one command can do, said once: every command is a sequence of acts, each with the guard under which it is taken. The
invariants and the rules over every command are then proved act by act. -/

namespace Sys2Proof.Inversion

open Sys2Proof Sys2Proof.Machine

/-! ### Guards of the acts -/

/-- The commands that bring the station back to SETUP. -/
def entersSetup (c : Instr) : Prop := c = .startupComplete ∨ c = .restart ∨ ∃ b, c = .validationEnd b

/-- The commands that reset every block. -/
def resets (c : Instr) : Prop := c = .powerOn ∨ ∃ m, c = .rstLow m

/-- What an inserted item other than JOIN names: a contributing channel, a peer, at least one point (R131). -/
def insertable (s : State) : SendItem → Prop
  | .join => False
  | .beat => True
  | .change ch _ => s.chan.channels[ch].contributing = true
  | .probe a => a ≠ s.ctrl.settings.address
  | .clear m => m ≠ 0

/-- An entry the peer table may hold for another station. -/
def peerFits (s : State) (a : Address) (e : PeerEntry) : Prop :=
  PeerInv s → a ≠ s.ctrl.settings.address ∧ e.state ≠ .self ∧ e.fits s.beatMs

/-- A point table that may be put in place of the one there is (R13, R14). -/
def tableFits (s : State) (t : PointTable) : Prop :=
  TableInv s → (∀ p : PointNo, ∀ r ∈ t[p], r.committed) ∧ (countTable t).pool ≤ 96

/-- One act of command `c`. -/
inductive Act (c : Instr) : State → State → Prop
  /-- The levels on the input pins move. -/
  | pins (s : State) (p : InputPins) : Act c s (s.setPins p)
  /-- A free choice is counted. -/
  | choices (s : State) (n : Nat) : Act c s (s.setChoices n)
  /-- A press on CLR starts or ends. -/
  | press (s : State) (p : Option Nat) : Act c s (setPress p s)
  /-- An event flag is set. -/
  | flag (s : State) (f : EventFlag) : Act c s (setFlag f s)
  /-- READ_EVENTS clears the flags (R186). -/
  | readFlags (s : State) (hc : c = .readEvents) : Act c s (s.setPort { s.port with flags := 0 })
  /-- The rest of the port moves: transaction, answer, staging record, cursor, mask. -/
  | port (s : State) (p : SetupPort) (hf : p.flags = s.port.flags)
      (hs : (∀ g ∈ s.port.staging, g.listOk) → ∀ g ∈ p.staging, g.listOk) : Act c s (s.setPort p)
  /-- ACK_FIRST_OUT empties a first-out record (R80). -/
  | ack (s : State) (g : GroupNo) (h : ∃ b, c = .ackFirstOut b ∧ b.toNat = g.val) : Act c s (setFirstOut g none s)
  /-- Time passes. -/
  | elapse (s : State) (n : Nat) : Act c s (elapse n s)
  /-- Every block takes its power-on value (R160). -/
  | reset (s : State) (p : InputPins) (n : Nat) (startup : Option Nat) (hc : resets c) :
      Act c s (State.inReset s.pending p n startup)
  /-- The start-up begins (R160). -/
  | startup (s : State) (n : Nat) (h : s.ctrl.station = .reset) : Act c s (s.setCtrl { s.ctrl with startup := some n })
  /-- From RESET to SETUP. -/
  | leaveReset (s : State) (hc : entersSetup c) (h : s.ctrl.station = .reset) : Act c s (leaveReset s)
  /-- The station settings are loaded (R180). -/
  | settings (s : State) (x : Settings) (hc : ¬entersSetup c) (h : s.ctrl.station = .setup)
      (hx : 2 ≤ x.beat ∧ x.beat ≤ 255 ∧ 1 ≤ x.scan ∧ x.scan ≤ 255) : Act c s (s.setCtrl { s.ctrl with settings := x })
  /-- A profile is loaded (R86). -/
  | profile (s : State) (i : ProfileNo) (p : Profile) (hc : ¬entersSetup c) (h : s.ctrl.station = .setup) (hp : p.inRange) :
      Act c s (s.setChan { s.chan with profiles := setAt s.chan.profiles i p })
  /-- The settings of a channel are loaded (R85). -/
  | channel (s : State) (ch : Channel) (e : Bool) (p : ProfileNo) (hc : ¬entersSetup c) (h : s.ctrl.station = .setup) :
      Act c s (s.setChan { s.chan with
        channels := setAt s.chan.channels ch { s.chan.channels[ch] with enabled := e, profile := p } })
  /-- The settings of a group are loaded (R66). -/
  | group (s : State) (g : GroupNo) (f : FailAction) (u : StartState) (hc : ¬entersSetup c) (h : s.ctrl.station = .setup) :
      Act c s (setGroupRecord g { s.trip.groups[g] with failAction := f, startState := u } s)
  /-- A point table is put in place (R14, R15). -/
  | table (s : State) (t : PointTable) (hc : ¬entersSetup c) (h : s.ctrl.station = .setup) (ht : tableFits s t) :
      Act c s (s.setCtrl (s.ctrl.withTable t))
  /-- From SETUP to VALIDATING (R162). -/
  | start (s : State) (h : s.ctrl.station = .setup) :
      Act c s (s.setCtrl { s.ctrl with station := .validating, rejection := .clear })
  /-- A START is rejected (R163). -/
  | reject (s : State) (r : Rejection) (hc : entersSetup c) (h : s.ctrl.station = .validating) : Act c s (rejectStart r s)
  /-- A START passes (R164). -/
  | listen (s : State) (b : Bool) (hc : ∃ b, c = .validationEnd b) (h : s.ctrl.station = .validating)
      (hr : startRejection s.ctrl s.chan = none) : Act c s (enterListen b s)
  /-- Entry to SETUP by RESTART (R172). -/
  | restart (s : State) (hc : c = .restart) (h : s.ctrl.station ≠ .reset) : Act c s (enterSetup s)
  /-- A clear mask is taken (R72). -/
  | clear (s : State) (m : PointMask) : Act c s (takeClearMask m s)
  /-- An item is inserted (R132). -/
  | insert (s : State) (i : SendItem) (hi : insertable s i) : Act c s (insertItem i s)
  /-- A scan begins (R90). -/
  | scan (s : State) (h : s.ctrl.station.clocked = true) : Act c s (beginScan s)
  /-- A conversion is stored and applied to the persistence (R89, R93). -/
  | sample (s : State) (ch : Channel) (rest : List Channel) (code : Nat) (h : s.ctrl.station.clocked = true)
      (hs : s.chan.scan = ch :: rest) (hcode : code ≤ 4095) :
      Act c s (s.setChan { s.chan with
        channels := setAt s.chan.channels ch
          (sampledRecord s.chan.profiles[s.chan.channels[ch].profile] s.chan.channels[ch] code)
        scan := rest })
  /-- A verdict of an own channel is written to the verdict table (R27). -/
  | ownWrite (s : State) (ch : Channel) (v : LineVerdict) (h : s.ctrl.station.online = true) (hv : v ≠ .off) :
      Act c s (applyUpdate [{ key := { station := s.ctrl.settings.address, channel := ch }, verdict := .line v }] s.peers s)
  /-- The line controller moves on without touching queue or frame. -/
  | line (s : State) (l : Option Address) (k : SlotCount) (r : Receiver) (h : s.ctrl.station.online = true)
      (hl : s.line.lastSender.isSome = true → l.isSome = true) (hk : s.line.slots ≠ .notKept → k ≠ .notKept)
      (hr : s.line.receiver ≠ .idle → r ≠ .idle)
      (hf : s.line.inFlight = none ∨
        (s.line.slots = .stopped → s.line.receiver = .collecting → k = .stopped ∧ r = .collecting)) :
      Act c s (s.setLine { s.line with lastSender := l, slots := k, receiver := r })
  /-- A frame starts (R134). -/
  | send (s : State) (hc : c = .slotStart) (h : s.ctrl.station.voting = true) (hf : s.line.inFlight = none) :
      Act c s (startFrame s)
  /-- An own frame other than JOIN completes (R135). -/
  | complete (s : State) (f : InFlight) (h : s.ctrl.station.voting = true) (hf : s.line.inFlight = some f)
      (hk : f.kind ≠ .join) : Act c s (s.setLine (s.line.afterComplete s.ctrl.settings.address))
  /-- An own JOIN completes (R168). -/
  | completeJoin (s : State) (f : InFlight) (h : s.ctrl.station.voting = true) (hf : s.line.inFlight = some f)
      (hk : f.kind = .join) : Act c s (joinCompleted (s.setLine (s.line.afterComplete s.ctrl.settings.address)))
  /-- An own frame is aborted short of the limit (R137). -/
  | abort (s : State) (f : InFlight) (h : s.ctrl.station.voting = true) (hf : s.line.inFlight = some f)
      (ha : s.line.aborts + 1 < 8) : Act c s (s.setLine (s.line.afterAbort f))
  /-- The station enters FAULTED, the line controller having moved on (R171). -/
  | fault (s : State) (cause : FaultCause) (l : LineUnit) (hcause : cause ≠ .none) (h : s.ctrl.station.online = true)
      (ha : l.aborts ≤ s.line.aborts + 1) (hq : l.sequence = s.line.sequence) : Act c s (enterFaulted cause (s.setLine l))
  /-- A peer entry moves, its state as it was (R106). -/
  | hear (s : State) (a : Address) (e e' : PeerEntry) (h : s.ctrl.station.online = true) (he : peerAt s a = some e)
      (hs : e'.state = e.state) (hfit : peerFits s a e') : Act c s (setPeer a e' s)
  /-- An update of the verdict table with a peer entry (R26, R30, R31). -/
  | update (s : State) (a : Address) (e e' : PeerEntry) (ws : List Write) (h : s.ctrl.station.online = true)
      (he : peerAt s a = some e) (hfit : peerFits s a e') (hws : ∀ w ∈ ws, w.key.station = a)
      (hgone : e'.state = .unheard ∨ e'.state = .silent ∨ e'.state = .excluded → ws = discardWrites a s.sources) :
      Act c s (applyUpdate ws (withPeer a e' s.peers) s)
  /-- The listen period ends (R166). -/
  | join (s : State) (h : s.ctrl.station = .listen) : Act c s (enterJoin s)
  /-- The settle period ends (R170). -/
  | run (s : State) (h : s.ctrl.station = .join) (hs : s.ctrl.settle.isSome = true) : Act c s (enterRun s)
  /-- The beat timer starts again (R169). -/
  | beatAgain (s : State) (n : Nat) (h : s.ctrl.station.voting = true) (hb : s.ctrl.beatTimer.isSome = true) :
      Act c s (s.setCtrl { s.ctrl with beatTimer := some n })
  /-- A point's timer expires (R45, R47). -/
  | expiry (s : State) (p : PointNo) (why : Cause) (h : s.ctrl.station.voting = true)
      (hw : why = .confirmExpiry ∨ why = .releaseExpiry) : Act c s (evaluateAsCounted p why s)

/-- The acts of one command, one after another. -/
abbrev Acts (c : Instr) : State → State → Prop := Relation.ReflTransGen (Act c)

variable {c : Instr} {s t : State}

theorem Act.acts (h : Act c s t) : Acts c s t := .single h

/-- A property kept by every act is kept by a command's acts together. -/
theorem Acts.keeps {P : State → Prop} (hP : ∀ s t, P s → Act c s t → P t) (h : Acts c s t) (hs : P s) : P t := by
  induction h with
  | refl => exact hs
  | tail _ h ih => exact hP _ _ ih h

/-! ### The requests of the setup port -/

theorem giveAnswer_act (bytes : List Byte) (s : State) : Act c s (giveAnswer bytes s) := .port s _ rfl id

/-- A request does the acts of its rule, where it is taken and answered OK, and gives its answer. -/
theorem takeRequest_acts {taken : StationState → Bool} {rule : State → Verdicted} (s : State)
    (h : taken s.ctrl.station = true → ∀ results t, rule s = .ok (results, t) → Acts c s t) :
    Acts c s (takeRequest taken rule s) := by
  rcases takeRequest_cases taken rule s with he | ⟨d, he⟩ | ⟨ht, results, t, hr, he⟩
  · rw [he]
  · rw [he]
    exact (giveAnswer_act _ s).acts
  · rw [he]
    exact (h ht results t hr).tail (giveAnswer_act _ t)

theorem inSetup_iff (st : StationState) : inSetup st = true ↔ st = .setup := by cases st <;> simp [inSetup]

/-- A request that SETUP alone takes does the acts of its rule there. -/
theorem setupRequest_acts {rule : State → Verdicted} (s : State)
    (h : s.ctrl.station = .setup → ∀ results t, rule s = .ok (results, t) → Acts c s t) :
    Acts c s (takeRequest inSetup rule s) := takeRequest_acts s fun ht => h ((inSetup_iff _).mp ht)

theorem toSettings_range {a r b n : Byte} {x : Settings} (h : toSettings a r b n = some x) :
    2 ≤ x.beat ∧ x.beat ≤ 255 ∧ 1 ≤ x.scan ∧ x.scan ≤ 255 := by
  have hb := b.isLt
  have hn := n.isLt
  unfold toSettings at h
  split at h
  next b' n' ha hr hbeat hscan =>
    cases h
    simp only [toBeat, toScan, Option.ite_none_right_eq_some, Option.some.injEq] at hbeat hscan
    dsimp only
    omega
  next => cases h

theorem toCode_range {w : Half} {k : Nat} (h : toCode w = some k) : k ≤ 4095 := by
  simp only [toCode, Option.ite_none_right_eq_some, Option.some.injEq] at h
  omega

theorem toProfileFields_inRange {fl l h fh : Half} {hy n se : Byte} {p : Profile}
    (hp : toProfileFields fl l h fh hy n se = some p) : p.inRange := by
  have hhy := hy.isLt
  unfold toProfileFields at hp
  split at hp
  next fl' l' h' fh' n' se' hfl hl hh hfh hn hse =>
    cases hp
    simp only [toPersistence, Option.ite_none_right_eq_some, Option.some.injEq] at hn
    have := toCode_range hfl
    have := toCode_range hl
    have := toCode_range hh
    have := toCode_range hfh
    dsimp only [Profile.inRange]
    omega
  next => cases hp

/-! ### The point table of COMMIT_POINT and DROP_POINT -/

/-- The contributor entries after one record is replaced: the old list's length leaves, the new one's comes. -/
theorem pool_setAt (t : PointTable) (p : PointNo) (o : Option PointRecord) :
    (poolEntries (setAt t p o)).length + heldLength t p =
      (poolEntries t).length + (o.map fun r => r.contributors.length).getD 0 := by
  have hsum (u : PointTable) : (poolEntries u).length = heldLength u p + ∑ q ∈ Finset.univ.erase p, heldLength u q := by
    rw [Points.poolEntries_length, ← Fin.sum_univ_def, Finset.add_sum_erase _ _ (Finset.mem_univ p)]
  have hrest : ∑ q ∈ Finset.univ.erase p, heldLength (setAt t p o) q = ∑ q ∈ Finset.univ.erase p, heldLength t q :=
    Finset.sum_congr rfl fun q hq => by
      rw [Points.heldLength_eq, Points.heldLength_eq, setAt_getElem_ne _ _ _ _ (Finset.ne_of_mem_erase hq)]
  rw [hsum (setAt t p o), hsum t, hrest, Points.heldLength_eq (setAt t p o), setAt_getElem, if_pos rfl]
  omega

theorem value_injective {a b : SourceKey} (h : a.value = b.value) : a = b := by
  obtain ⟨⟨x, hx⟩, ⟨y, hy⟩⟩ := a
  obtain ⟨⟨z, hz⟩, ⟨w, hw⟩⟩ := b
  simp only [SourceKey.value, SourceKey.mk.injEq, Fin.mk.injEq] at h ⊢
  omega

/-- Sorting a list that holds no pair twice makes it strictly ascending (R2). -/
theorem sortKeys_strict {l : List SourceKey} (h : l.Nodup) : (sortKeys l).Pairwise fun a b => a.value < b.value := by
  have hd : (sortKeys l).Nodup := (Points.sortKeys_perm l).nodup_iff.mpr h
  exact ((Points.sortKeys_pairwise l).and hd).imp fun ⟨hle, hne⟩ => lt_of_le_of_ne hle fun he => hne (value_injective he)

/-- What a staging record that passes every check of COMMIT_POINT has (R13). -/
theorem commitFailure_none {k : Controller} {g : Staging} (hf : commitFailure k g = none) :
    g.draft.contributors ≠ [] ∧ (1 ≤ g.draft.quorum ∧ g.draft.quorum ≤ g.draft.contributors.length) ∧ g.draft.mask ≠ 0 ∧
      (g.draft.confirm ≤ 2550 ∧ g.draft.confirm % 10 = 0 ∧ g.draft.release ≤ 2550 ∧ g.draft.release % 10 = 0) ∧
      k.counts.pool + g.draft.contributors.length ≤ 96 + heldLength k.points g.point := by
  have hl : g.draft.contributors ≠ [] := fun hl => by cases hf ▸ Points.commitFailure_noContributors hl
  have hq : 1 ≤ g.draft.quorum ∧ g.draft.quorum ≤ g.draft.contributors.length := by
    by_contra hq
    cases hf ▸ Points.commitFailure_quorumRange hl (by omega)
  have hm : g.draft.mask ≠ 0 := fun hm => by cases hf ▸ Points.commitFailure_noDirection hl hq hm
  have ht : g.draft.confirm ≤ 2550 ∧ g.draft.confirm % 10 = 0 ∧ g.draft.release ≤ 2550 ∧ g.draft.release % 10 = 0 := by
    by_contra ht
    cases hf ▸ Points.commitFailure_timeRange hl hq hm (by omega)
  refine ⟨hl, hq, hm, ht, ?_⟩
  rw [Points.commitFailure_pool hl hq hm ht, ite_eq_right_iff] at hf
  by_contra hp
  cases hf (by omega)

/-- A staging record that passes every check of COMMIT_POINT becomes a committed record (R13, R14). -/
theorem committedRecord_committed {k : Controller} {g : Staging} (hg : g.listOk) (hf : commitFailure k g = none) :
    (committedRecord g).committed := by
  obtain ⟨hlen, hnodup⟩ := hg
  obtain ⟨hl, hq, hm, ht, -⟩ := commitFailure_none hf
  have hperm : (sortKeys g.draft.contributors).length = g.draft.contributors.length := (Points.sortKeys_perm _).length_eq
  have hpos : 0 < g.draft.contributors.length := List.length_pos_of_ne_nil hl
  simp only [PointRecord.committed, committedRecord, hperm]
  exact ⟨hpos, hlen, sortKeys_strict hnodup, hq.1, hq.2, hm, ht⟩

/-- The table COMMIT_POINT puts in place. -/
theorem commit_tableFits {s : State} {g : Staging} (hg : s.port.staging = some g) (hf : commitFailure s.ctrl g = none) :
    tableFits s (setAt s.ctrl.points g.point (some (committedRecord g))) := by
  rintro ⟨hrecords, hstaging, hcounts, hpool, -⟩
  constructor
  · intro p r hr
    rw [setAt_getElem] at hr
    split at hr
    · cases hr
      exact committedRecord_committed (hstaging g hg) hf
    · exact hrecords p r hr
  · have hsum := pool_setAt s.ctrl.points g.point (some (committedRecord g))
    have hlen : (committedRecord g).contributors.length = g.draft.contributors.length := (Points.sortKeys_perm _).length_eq
    have hlimit := (commitFailure_none hf).2.2.2.2
    have hcount : s.ctrl.counts.pool = (poolEntries s.ctrl.points).length := by rw [hcounts, countTable]
    simp only [Option.map_some, Option.getD_some, hlen] at hsum
    dsimp only [countTable]
    omega

/-- The table DROP_POINT puts in place. -/
theorem drop_tableFits (s : State) (p : PointNo) : tableFits s (setAt s.ctrl.points p none) := by
  rintro ⟨hrecords, -, hcounts, hpool, -⟩
  constructor
  · intro q r hr
    rw [setAt_getElem] at hr
    split at hr
    · cases hr
    · exact hrecords q r hr
  · have hsum := pool_setAt s.ctrl.points p none
    have hcount : s.ctrl.counts.pool = (poolEntries s.ctrl.points).length := by rw [hcounts, countTable]
    simp only [Option.map_none, Option.getD_none] at hsum
    dsimp only [countTable]
    omega

/-! ### What each family of commands does -/

/-- The command completes, by acts of its own. -/
def Completes (c : Instr) (s : State) : Prop := ∃ t, exec c s = .next t ∧ Acts c s t

/-! ### Requests of SETUP -/

theorem setStation_completes (a r b n : Byte) (s : State) : Completes (.setStation a r b n) s := by
  refine ⟨_, rfl, setupRequest_acts s fun hst results t ht => ?_⟩
  split at ht
  next x hx =>
    cases ht
    exact (Act.settings s x (by simp [entersSetup]) hst (toSettings_range hx)).acts
  next => cases ht

theorem setProfile_completes (i : Byte) (fl l h fh : Half) (hy n se : Byte) (s : State) :
    Completes (.setProfile i fl l h fh hy n se) s := by
  refine ⟨_, rfl, setupRequest_acts s fun hst results t ht => ?_⟩
  split at ht
  next x p hx hp =>
    cases ht
    exact (Act.profile s x p (by simp [entersSetup]) hst (toProfileFields_inRange hp)).acts
  next => cases ht

theorem setChannel_completes (ch e p : Byte) (s : State) : Completes (.setChannel ch e p) s := by
  refine ⟨_, rfl, setupRequest_acts s fun hst results t ht => ?_⟩
  split at ht
  next x y z hx hy hz =>
    cases ht
    exact (Act.channel s x y z (by simp [entersSetup]) hst).acts
  next => cases ht

theorem setGroup_completes (g f u : Byte) (s : State) : Completes (.setGroup g f u) s := by
  refine ⟨_, rfl, setupRequest_acts s fun hst results t ht => ?_⟩
  split at ht
  next x y z hx hy hz =>
    cases ht
    exact (Act.group s x y z (by simp [entersSetup]) hst).acts
  next => cases ht

/-- A staging record put in place, which is in order where the one before it is. -/
theorem setStaging_acts {c : Instr} (s : State) (g : Option Staging)
    (h : (∀ d ∈ s.port.staging, d.listOk) → ∀ d ∈ g, d.listOk) : Acts c s (setStaging g s) :=
  (Act.port s { s.port with staging := g } rfl h).acts

theorem stageBegin_completes (p : Byte) (s : State) : Completes (.stageBegin p) s := by
  refine ⟨_, rfl, setupRequest_acts s fun hst results t ht => ?_⟩
  split at ht
  next x hx =>
    cases ht
    refine setStaging_acts s _ fun _ d hd => ?_
    cases hd
    exact ⟨Nat.zero_le _, List.nodup_nil⟩
  next => cases ht

theorem toDraft_contributors {q m po la g : Byte} {x y : Half} {d d' : PointRecord} (h : toDraft q m po la g x y d = some d') :
    d'.contributors = d.contributors := by
  unfold toDraft at h
  split at h
  next => cases h; rfl
  next => cases h

theorem stagePoint_completes (q m po la g : Byte) (x y : Half) (s : State) : Completes (.stagePoint q m po la g x y) s := by
  refine ⟨_, rfl, setupRequest_acts s fun hst results t ht => ?_⟩
  split at ht
  next => cases ht
  next d hd =>
    split at ht
    next => cases ht
    next g hg =>
      cases ht
      refine setStaging_acts s _ fun hok d' hd' => ?_
      cases hd'
      have hlist := toDraft_contributors hd
      simp only [hg, Option.map_some, Option.getD_some] at hlist
      have hlistOk := hok g hg
      dsimp only [Staging.listOk] at hlistOk ⊢
      rwa [hlist]

theorem stageAdd_completes (a ch : Byte) (s : State) : Completes (.stageAdd a ch) s := by
  refine ⟨_, rfl, setupRequest_acts s fun hst results t ht => ?_⟩
  split at ht
  next => cases ht
  next k hk =>
    split at ht
    next => cases ht
    next g hg =>
      split at ht
      next => cases ht
      next hnew =>
        split at ht
        next => cases ht
        next hfull =>
          cases ht
          refine setStaging_acts s _ fun hok d hd => ?_
          cases hd
          obtain ⟨-, hnodup⟩ := hok g hg
          rw [List.contains_iff_mem] at hnew
          rw [Config.listLimit] at hfull
          refine ⟨?_, List.nodup_append.mpr ⟨hnodup, List.nodup_singleton k, ?_⟩⟩
          · simp only [List.length_append, List.length_singleton]
            omega
          · rintro x hx y hy rfl
            exact hnew (List.mem_singleton.mp hy ▸ hx)

theorem commitPoint_completes (s : State) : Completes .commitPoint s := by
  refine ⟨_, rfl, setupRequest_acts s fun hst results t ht => ?_⟩
  split at ht
  next => cases ht
  next g hg =>
    split at ht
    next => cases ht
    next hf =>
      cases ht
      refine .trans (Act.table s _ (by simp [entersSetup]) hst (commit_tableFits hg hf)).acts ?_
      exact setStaging_acts _ _ fun _ d hd => by cases hd

theorem dropPoint_completes (p : Byte) (s : State) : Completes (.dropPoint p) s := by
  refine ⟨_, rfl, setupRequest_acts s fun hst results t ht => ?_⟩
  split at ht
  next => cases ht
  next x hx =>
    split at ht
    next =>
      cases ht
      exact (Act.table s _ (by simp [entersSetup]) hst (drop_tableFits s x)).acts
    next => cases ht

theorem start_completes (s : State) : Completes .start s := by
  refine ⟨_, rfl, setupRequest_acts s fun hst results t ht => ?_⟩
  cases ht
  exact (Act.start s hst).acts

theorem validationEnd_completes (b : Bool) (s : State) : Completes (.validationEnd b) s := by
  refine ⟨_, rfl, ?_⟩
  split
  next hst =>
    split
    next r hr => exact (Act.reject s r (.inr (.inr ⟨b, rfl⟩)) hst).acts
    next hr => exact (Act.listen s b ⟨b, rfl⟩ hst hr).acts
  next => exact .refl

theorem restart_completes (s : State) : Completes .restart s := by
  refine ⟨_, rfl, takeRequest_acts s fun hst results t ht => ?_⟩
  cases ht
  exact (Act.restart s rfl fun h => by rw [h] at hst; cases hst).acts

/-! ### Reads -/

/-- A request that only reads gives its answer and does nothing else. -/
theorem read_acts {c : Instr} {taken : StationState → Bool} {rule : State → Verdicted} (s : State)
    (h : ∀ results t, rule s = .ok (results, t) → t = s) : Acts c s (takeRequest taken rule s) :=
  takeRequest_acts s fun _ results t ht => by rw [h results t ht]

theorem unknownRequest_completes (b : Byte) (s : State) : Completes (.unknownRequest b) s :=
  ⟨_, rfl, read_acts s fun _ _ ht => by cases ht⟩

theorem readStatus_completes (s : State) : Completes .readStatus s :=
  ⟨_, rfl, read_acts s fun _ _ ht => by cases ht; rfl⟩

theorem readPoint_completes (p : Byte) (s : State) : Completes (.readPoint p) s :=
  ⟨_, rfl, read_acts s fun _ _ ht => by split at ht <;> cases ht; rfl⟩

theorem readPointRecord_completes (p i : Byte) (s : State) : Completes (.readPointRecord p i) s := by
  refine ⟨_, rfl, read_acts s fun _ _ ht => ?_⟩
  split at ht
  next => split at ht <;> cases ht; rfl
  next => cases ht

theorem readSource_completes (i : Byte) (s : State) : Completes (.readSource i) s :=
  ⟨_, rfl, read_acts s fun _ _ ht => by split at ht <;> cases ht; rfl⟩

theorem readPeer_completes (a : Byte) (s : State) : Completes (.readPeer a) s :=
  ⟨_, rfl, read_acts s fun _ _ ht => by split at ht <;> cases ht; rfl⟩

theorem readChannel_completes (ch : Byte) (s : State) : Completes (.readChannel ch) s :=
  ⟨_, rfl, read_acts s fun _ _ ht => by split at ht <;> cases ht; rfl⟩

theorem readFirstOut_completes (g : Byte) (s : State) : Completes (.readFirstOut g) s := by
  refine ⟨_, rfl, takeRequest_acts s fun _ _ _ ht => ?_⟩
  split at ht
  next x hx =>
    cases ht
    refine Act.acts (.port s _ ?_ ?_)
    · rfl
    · exact id
  next => cases ht

theorem readEvents_completes (s : State) : Completes .readEvents s := by
  refine ⟨_, rfl, takeRequest_acts s fun _ _ _ ht => ?_⟩
  cases ht
  exact (Act.readFlags s rfl).acts

theorem setEventMask_completes (m : Byte) (s : State) : Completes (.setEventMask m) s := by
  refine ⟨_, rfl, takeRequest_acts s fun _ _ _ ht => ?_⟩
  split at ht
  next x hx =>
    cases ht
    exact (Act.port s { s.port with mask := x } rfl id).acts
  next => cases ht

theorem rewindCursor_acts {c : Instr} (g : GroupNo) (s : State) : Acts c s (rewindCursor g s) := by
  unfold rewindCursor
  split
  · exact (Act.port s { s.port with cursor := { s.port.cursor with position := none } } rfl id).acts
  · exact .refl

theorem toGroup_val {b : Byte} {g : GroupNo} (h : toGroup b = some g) : b.toNat = g.val := by
  unfold toGroup indexBelow at h
  split at h <;> cases h
  rfl

theorem ackFirstOut_completes (g : Byte) (s : State) : Completes (.ackFirstOut g) s := by
  refine ⟨_, rfl, takeRequest_acts s fun _ _ _ ht => ?_⟩
  split at ht
  next x hx =>
    cases ht
    exact (Act.ack s x ⟨g, rfl, toGroup_val hx⟩).acts.trans (rewindCursor_acts x _)
  next => cases ht

/-! ### Power, pins and clears -/

theorem rstLow_completes (m : Nat) (s : State) : Completes (.rstLow m) s := by
  have hc : resets (.rstLow m) := .inr ⟨m, rfl⟩
  refine ⟨_, rfl, ?_⟩
  split
  · exact (Act.reset s _ _ _ hc).acts
  · unfold shortReset
    split
    · exact .refl
    · split
      · exact (Act.reset s _ _ _ hc).acts
      · exact (Act.choices s _).acts

theorem rstHigh_completes (s : State) : Completes .rstHigh s := by
  refine ⟨_, rfl, ?_⟩
  unfold releaseReset
  dsimp only
  split
  next h => exact (Act.pins s _).acts.tail (Act.startup _ _ h.1)
  next => exact (Act.pins s _).acts

theorem startupComplete_completes (s : State) : Completes .startupComplete s := by
  refine ⟨_, rfl, ?_⟩
  split
  next r hst hr => exact (Act.elapse s r).acts.tail (Act.leaveReset _ (.inl rfl) hst)
  next => exact .refl

theorem csFalling_completes (s : State) : Completes .csFalling s := by
  refine ⟨_, rfl, ?_⟩
  unfold openTransaction
  dsimp only
  split
  · exact (Act.pins s _).acts.tail (.port _ { s.port with transaction := .collecting, answer := [] } rfl id)
  · exact (Act.pins s _).acts

theorem csRising_completes (s : State) : Completes .csRising s := by
  refine ⟨_, rfl, ?_⟩
  unfold closeTransaction
  dsimp only
  split
  · exact (Act.pins s _).acts.tail (.port _ { s.port with transaction := .closed, answer := [] } rfl id)
  · exact (Act.pins s _).acts

theorem clrFalling_completes (s : State) : Completes .clrFalling s := by
  refine ⟨_, rfl, ?_⟩
  split
  · exact (Act.pins s _).acts
  · exact (Act.pins s _).acts.tail (.press _ _)

theorem clrRising_completes (s : State) : Completes .clrRising s :=
  ⟨_, rfl, (Act.pins s _).acts.tail (.press _ _)⟩

theorem clrQualified_completes (s : State) : Completes .clrQualified s := by
  refine ⟨_, rfl, ?_⟩
  split
  next r hr => exact ((Act.elapse s r).acts.tail (.press _ none)).tail (.clear _ _)
  next => exact .refl

theorem clearPoints_completes (m : PointMask) (b : Byte) (s : State) : Completes (.clearPoints m b) s := by
  refine ⟨_, rfl, takeRequest_acts s fun _ _ _ ht => ?_⟩
  split at ht
  next => cases ht
  next hm =>
    split at ht
    next network _ =>
      cases ht
      refine .trans (Act.clear s m).acts ?_
      unfold queueClear
      split
      · exact (Act.insert _ (.clear m) hm).acts
      · exact .refl
    next => cases ht

/-! ### Scans -/

theorem codeOfVoltage_le (v : Int) : codeOfVoltage v ≤ 4095 := by
  unfold codeOfVoltage
  split
  · exact Nat.zero_le _
  · exact min_le_left _ _

theorem scanStart_completes (s : State) : Completes .scanStart s := by
  refine ⟨_, rfl, ?_⟩
  split
  next r hst hr => exact (Act.elapse s r).acts.tail (.scan _ hst)
  next => exact .refl

@[simp] theorem sampledRecord_contributing (p : Profile) (r : ChannelRecord) (code : Nat) :
    (sampledRecord p r code).contributing = r.contributing := by
  unfold sampledRecord persist
  split
  · rfl
  · split <;> rfl

/-- A verdict that a sample changes is the sample's class, so it is not OFF (R93, R94). -/
theorem sampledRecord_verdict_ne_off {p : Profile} {r : ChannelRecord} {code : Nat}
    (h : (sampledRecord p r code).verdict ≠ r.verdict) : (sampledRecord p r code).verdict ≠ .off := by
  have hclass (k : SampleClass) : k.verdict ≠ .off := by cases k <;> simp [SampleClass.verdict]
  unfold sampledRecord persist at h ⊢
  split
  next hk => simp [hk] at h
  next hk =>
    split
    next => exact hclass _
    next hn => simp [hk, hn] at h

theorem handOn_acts {c : Instr} {ch : Channel} {v : LineVerdict} {b : Bool} {s : State} (hv : v ≠ .off)
    (hb : b = true → s.chan.channels[ch].contributing = true) : Acts c s (handOn ch v b s) := by
  unfold handOn
  split
  next h =>
    obtain ⟨hb', ho⟩ := Bool.and_eq_true_iff.mp h
    refine (Act.ownWrite s ch v ho hv).acts.tail (.insert _ _ ?_)
    have hframe := (applyUpdate_frame [{ key := { station := s.ctrl.settings.address, channel := ch }, verdict := .line v }]
      s.peers s).1
    simp only [insertable, hframe.chan]
    exact hb hb'
  next => exact .refl

theorem conversionComplete_completes (v : Int) (s : State) : Completes (.conversionComplete v) s := by
  refine ⟨_, rfl, ?_⟩
  split
  next ch rest hst hscan =>
    unfold takeSample
    dsimp only
    have hsample : Act (.conversionComplete v) s _ := .sample s ch rest _ hst hscan (codeOfVoltage_le v)
    split
    next => exact hsample.acts
    next hne =>
      refine hsample.acts.trans (handOn_acts (sampledRecord_verdict_ne_off hne) fun hb => ?_)
      simp only [State.setChan_chan, setAt_getElem, if_pos, sampledRecord_contributing]
      exact hb
  next => exact .refl

/-! ### The line controller -/

theorem slotStart_completes (s : State) : Completes .slotStart s := by
  refine ⟨_, rfl, ?_⟩
  split
  next k ho hf hk =>
    have hslot : Act .slotStart s (s.setLine { s.line with slots := .slot k }) :=
      .line s s.line.lastSender (.slot k) s.line.receiver ho id (fun _ => by simp) id (.inl hf)
    unfold beginSlot
    dsimp only
    split
    next h => exact hslot.acts.tail (.send _ rfl h.1 hf)
    next => exact hslot.acts
  next => exact .refl

theorem frameComplete_completes (s : State) : Completes .frameComplete s := by
  refine ⟨_, rfl, ?_⟩
  split
  next f hv hf =>
    dsimp only
    split
    next hk => exact (Act.completeJoin s f hv hf hk).acts
    next hk => exact (Act.complete s f hv hf hk).acts
  next => exact .refl

theorem online_of_voting {st : StationState} (h : st.voting = true) : st.online = true := by
  cases st <;> first | rfl | cases h

theorem clocked_of_online {st : StationState} (h : st.online = true) : st.clocked = true := by
  cases st <;> first | rfl | cases h

theorem abort_completes (s : State) : Completes .abort s := by
  refine ⟨_, rfl, ?_⟩
  split
  next f hv hf =>
    dsimp only
    split
    next => exact (Act.fault s .line (s.line.afterAbort f) (by simp) (online_of_voting hv) le_rfl rfl).acts
    next hlimit =>
      refine (Act.abort s f hv hf ?_).acts
      simp only [State.setLine_line, LineUnit.afterAbort, Config.abortLimit] at hlimit
      omega
  next => exact .refl

theorem afterBroken_ne_idle {reason : BrokenReason} {r r' : Receiver} (h : r.afterBroken reason = some r') : r' ≠ .idle := by
  unfold Receiver.afterBroken at h
  split at h
  · cases h
  · cases h
  · cases h
  · split at h
    · cases h; simp
    · split at h <;> cases h; simp
    all_goals cases h; simp
  · split at h <;> cases h <;> simp

theorem abandonFrame_acts {c : Instr} (reason : BrokenReason) (s : State) : Acts c s (abandonFrame reason s) := by
  unfold abandonFrame
  split
  next h =>
    split
    next r hr =>
      exact (Act.line s s.line.lastSender .stopped r h.1 id (fun _ => by simp) (fun _ => afterBroken_ne_idle hr) (.inl h.2)).acts
    next => exact .refl
  next => exact .refl

theorem timeOutGap_acts {c : Instr} (s : State) : Acts c s (timeOutGap s) := by
  have hwait (h : s.ctrl.station.online = true ∧ s.line.inFlight = none) :
      Acts c s (s.setLine { s.line with receiver := .waiting true }) :=
    (Act.line s s.line.lastSender s.line.slots (.waiting true) h.1 id id (fun _ => by simp) (.inl h.2)).acts
  unfold timeOutGap
  split
  next h =>
    split
    · exact hwait h
    · exact hwait h
    all_goals exact .refl
  next => exact .refl

theorem lineActivity_completes (s : State) : Completes .lineActivity s := by
  refine ⟨_, rfl, ?_⟩
  split
  next h =>
    refine (Act.line s s.line.lastSender .stopped s.line.receiver.onDominant h id (fun _ => by simp) ?_ ?_).acts
    · cases s.line.receiver <;> simp [Receiver.onDominant]
    · exact .inr fun _ hr => by simp [hr, Receiver.onDominant]
  next => exact .refl

/-! ### Periods and timers -/

theorem listenPeriodExpiry_completes (s : State) : Completes .listenPeriodExpiry s := by
  refine ⟨_, rfl, ?_⟩
  split
  next r hst hr => exact (Act.elapse s r).acts.tail (.join _ hst)
  next => exact .refl

theorem settlePeriodExpiry_completes (s : State) : Completes .settlePeriodExpiry s := by
  refine ⟨_, rfl, ?_⟩
  split
  next r hst hr =>
    refine (Act.elapse s r).acts.tail (.run _ hst ?_)
    simp [elapse, Controller.runDown, runDown, hr]
  next => exact .refl

theorem beatTimerExpiry_completes (s : State) : Completes .beatTimerExpiry s := by
  refine ⟨_, rfl, ?_⟩
  split
  next r hst hr =>
    refine ((Act.elapse s r).acts.tail (.insert _ .beat trivial)).tail (.beatAgain _ _ ?_ ?_)
    · simpa using hst
    · rw [insertItem_ctrl]
      simp [elapse, Controller.runDown, runDown, hr]
  next => exact .refl

theorem confirmTimerExpiry_completes (p : PointNo) (s : State) : Completes (.confirmTimerExpiry p) s := by
  refine ⟨_, rfl, ?_⟩
  split
  next r hst hr => exact (Act.elapse s r).acts.tail (.expiry _ p _ hst (.inl rfl))
  next => exact .refl

theorem releaseTimerExpiry_completes (p : PointNo) (s : State) : Completes (.releaseTimerExpiry p) s := by
  refine ⟨_, rfl, ?_⟩
  split
  next r hst hr => exact (Act.elapse s r).acts.tail (.expiry _ p _ hst (.inr rfl))
  next => exact .refl

/-! ### The peer monitor -/

theorem peerAt_elapse {s : State} (n : Nat) (a : Address) (h : s.ctrl.station.online = true) :
    peerAt (elapse n s) a = (peerAt s a).map (PeerEntry.runDown n) := by
  cases hp : s.peers <;> simp [peerAt, elapse, runPeers, h, hp]

/-- The entry of another station fits; a peer that is SELF, or has an own timer running, is at no address but the own one. -/
theorem peerFits_old {s : State} {a : Address} {e : PeerEntry} (he : peerAt s a = some e)
    (ha : e.state ≠ .self ∨ e.silence.isSome = true ∨ e.heal.isSome = true ∨ a ≠ s.ctrl.settings.address) :
    peerFits s a e := by
  rintro ⟨-, hentries⟩
  simp only [peerAt, Option.map_eq_some_iff] at he
  obtain ⟨t, ht, rfl⟩ := he
  have hentry := hentries t ht a
  split at hentry
  next hown =>
    exfalso
    rw [hentry] at ha
    simp [builtPeer, hown] at ha
  next hother => exact ⟨hother, hentry⟩

/-- An entry that goes to a state without the silence timer's duty, the heal timer stopped, fits where the old one does. -/
theorem PeerEntry.fits_silent {n : Nat} {e : PeerEntry} (h : e.fits n) :
    ({ e with state := .silent, heal := none } : PeerEntry).fits n := by
  obtain ⟨-, -, hsilence, -, -⟩ := h
  exact ⟨by simp, by simp, hsilence, by simp, by simp⟩

theorem discardWrites_station {a : Address} {l : List SourceEntry} {w : Write} (h : w ∈ discardWrites a l) :
    w.key.station = a := by
  simp only [discardWrites, List.mem_map, List.mem_filter, Bool.and_eq_true, beq_iff_eq] at h
  obtain ⟨e, ⟨-, ha, -⟩, rfl⟩ := h
  exact ha

theorem beatWrites_station {a : Address} {codes : Vector Byte 8} {l : List SourceEntry} {w : Write}
    (h : w ∈ beatWrites a codes l) : w.key.station = a := by
  simp only [beatWrites, List.mem_map, List.mem_filter, beq_iff_eq] at h
  obtain ⟨e, ⟨-, ha⟩, rfl⟩ := h
  exact ha

theorem changeWrites_station {a : Address} {entries : List Byte} {w : Write} (h : w ∈ changeWrites a entries) :
    w.key.station = a := by
  simp only [changeWrites, List.mem_filterMap, changeWrite, Option.map_eq_some_iff] at h
  obtain ⟨b, -, ch, -, rfl⟩ := h
  rfl

/-- A peer becomes SILENT by one update and PEER (R31, R115, R116, R119). -/
theorem silencePeer_acts {c : Instr} {a : Address} {e e' : PeerEntry} {s : State} (h : s.ctrl.station.online = true)
    (he : peerAt s a = some e) (hfit : peerFits s a { e' with state := .silent, heal := none }) :
    Acts c s (silencePeer a e' s) :=
  (Act.update s a e _ _ h he hfit (fun _ => discardWrites_station) fun _ => rfl).acts.tail (.flag _ _)

theorem silenceTimerExpiry_completes (a : Address) (s : State) : Completes (.silenceTimerExpiry a) s := by
  refine ⟨_, rfl, ?_⟩
  split
  next r ho hr =>
    refine .trans (Act.elapse s r).acts ?_
    obtain ⟨e0, he0, hsome⟩ := Option.bind_eq_some_iff.mp hr
    have he : peerAt (elapse r s) a = some (e0.runDown r) := by rw [peerAt_elapse r a ho, he0]; rfl
    have hold : peerFits (elapse r s) a (e0.runDown r) :=
      peerFits_old he (.inr (.inl (by simp [PeerEntry.runDown, runDown, hsome])))
    have hstop (hs : e0.state = .unheard ∨ e0.state = .silent ∨ e0.state = .self) :
        Acts (.silenceTimerExpiry a) (elapse r s) (setPeer a { e0.runDown r with silence := none } (elapse r s)) := by
      refine Act.acts (.hear _ a _ _ ho he (by rfl) fun hinv => ?_)
      obtain ⟨ha, hself, hheal, hhealmax, -, -, hunheard⟩ := hold hinv
      refine ⟨ha, hself, hheal, hhealmax, by simp, fun hst => ?_, hunheard⟩
      exfalso
      dsimp only [PeerEntry.runDown] at hst
      rcases hs with hs | hs | hs <;> simp [hs] at hst
    have hsilent : Acts (.silenceTimerExpiry a) (elapse r s)
        (silencePeer a { e0.runDown r with silence := none } (elapse r s)) := by
      refine silencePeer_acts ho he fun hinv => ?_
      obtain ⟨ha, -, hfits⟩ := hold hinv
      exact ⟨ha, by simp, by simp, by simp, by simp, by simp, by simp⟩
    unfold takeSilenceExpiry
    rw [he]
    dsimp only
    split
    next => exact hsilent
    next => exact hsilent
    next => exact hsilent
    next hst => exact hstop (.inl hst)
    next hst => exact hstop (.inr (.inl hst))
    next hst => exact hstop (.inr (.inr hst))
  next => exact .refl

theorem healTimerExpiry_completes (a : Address) (s : State) : Completes (.healTimerExpiry a) s := by
  refine ⟨_, rfl, ?_⟩
  split
  next r ho hr =>
    refine .trans (Act.elapse s r).acts ?_
    obtain ⟨e0, he0, hsome⟩ := Option.bind_eq_some_iff.mp hr
    have he : peerAt (elapse r s) a = some (e0.runDown r) := by rw [peerAt_elapse r a ho, he0]; rfl
    have hheal : (e0.runDown r).heal.isSome = true := by simp [PeerEntry.runDown, runDown, hsome]
    have hold : peerFits (elapse r s) a (e0.runDown r) := peerFits_old he (.inr (.inr (.inl hheal)))
    unfold takeHealExpiry
    rw [he]
    dsimp only
    split
    next =>
      refine silencePeer_acts ho he fun hinv => ?_
      obtain ⟨ha, -, hfits⟩ := hold hinv
      exact ⟨ha, by simp, PeerEntry.fits_silent hfits⟩
    next hst =>
      refine Act.acts (.hear _ a _ _ ho he (by rfl) fun hinv => ?_)
      obtain ⟨-, -, hgapped, -⟩ := hold hinv
      exact absurd (hgapped.mp hheal) hst
  next => exact .refl

/-! ### Frames -/

/-- A valid frame: ignored, a fault report, or L taken and the rest of the frame's effect (R129, R147, R155). -/
theorem acceptFrame_acts {c : Instr} {a : Address} {rest : State → State} (s : State)
    (h : ∀ u, u.ctrl.station.online = true → a ≠ u.ctrl.settings.address → Acts c u (rest u)) :
    Acts c s (acceptFrame a rest s) := by
  by_cases hc : s.ctrl.station.online = true ∧ s.line.inFlight = none ∧ s.line.receiver.collects = true
  · by_cases ha : a = s.ctrl.settings.address
    · rw [acceptFrame_own hc ha]
      exact Act.acts (.fault s .duplicateAddress _ (by simp) hc.1 (by exact Nat.le_succ _) (by rfl))
    · rw [acceptFrame_peer hc ha]
      refine .trans (Act.line s (some a) .stopped (.waiting false) hc.1 (fun _ => rfl) (fun _ => by simp) (fun _ => by simp)
        (.inl hc.2.1)).acts (h _ hc.1 ha)
  · rw [acceptFrame_ignored a rest s hc]

/-- A frame of a known kind acts through its sender's entry, which is no SELF and fits (R106). -/
theorem deliverFrame_acts {c : Instr} {a : Address} {effect : PeerEntry → State → State} (s : State)
    (h : ∀ u e, u.ctrl.station.online = true → a ≠ u.ctrl.settings.address → peerAt u a = some e → Acts c u (effect e u)) :
    Acts c s (deliverFrame a effect s) := by
  refine acceptFrame_acts s fun u ho ha => ?_
  split
  next e he => exact h u e ho ha he
  next => exact .refl

/-- After the bookkeeping an entry fits with its state as it was, whatever digest and channels it announced unless UNHEARD. -/
theorem peerFits_heard {u : State} {a : Address} {e : PeerEntry} (q : Byte) (ha : a ≠ u.ctrl.settings.address)
    (he : peerAt u a = some e) : peerFits u a (heardEntry q u e) := by
  intro hinv
  obtain ⟨-, hself, hheal, hhealmax, -, -, hunheard⟩ := peerFits_old he (.inr (.inr (.inr ha))) hinv
  exact ⟨ha, hself, hheal, hhealmax, by simp [heardEntry], fun _ => rfl, hunheard⟩

/-- After the bookkeeping an entry fits in every state that another station may have and that asks for no heal timer, whatever it
announced. -/
theorem peerFits_moved {u : State} {a : Address} {e : PeerEntry} {q : Byte} {p : PeerState} {d : Option Half}
    {ch : Option Byte} (ha : a ≠ u.ctrl.settings.address) (hp : p = .live ∨ p = .excluded) :
    peerFits u a { heardEntry q u e with digest := d, channels := ch, state := p, heal := none } := by
  intro _
  refine ⟨ha, ?_, ?_, by simp, by simp [heardEntry], fun _ => rfl, ?_⟩ <;>
    rcases hp with rfl | rfl <;> simp

/-- Entry to EXCLUDED by one update, or the bookkeeping alone where the peer is EXCLUDED already (R109, R110, R118). -/
theorem excludePeer_acts {c : Instr} {u : State} {a : Address} {e : PeerEntry} {q : Byte} {d : Option Half} {ch : Option Byte}
    (ho : u.ctrl.station.online = true) (ha : a ≠ u.ctrl.settings.address) (he : peerAt u a = some e) :
    Acts c u (excludePeer a e { heardEntry q u e with digest := d, channels := ch } u) := by
  unfold excludePeer
  split
  next hst =>
    refine Act.acts (.hear u a e _ ho he (by rfl) fun hinv => ?_)
    obtain ⟨-, hself, hheal, hhealmax, hsil, hsome, -⟩ := peerFits_heard q ha he hinv
    exact ⟨ha, hself, hheal, hhealmax, hsil, hsome, by simp [heardEntry, hst]⟩
  next =>
    exact ((Act.update u a e _ _ ho he (peerFits_moved (e := e) ha (.inr rfl)) (fun _ => discardWrites_station)
      fun _ => rfl).acts.tail
      (.flag _ _)).tail (.flag _ _)

theorem receiveJoin_completes (a : Address) (q : Byte) (d : Half) (b m : Byte) (s : State) :
    Completes (.receiveJoin a q d b m) s := by
  refine ⟨_, rfl, deliverFrame_acts s fun u e ho ha he => ?_⟩
  unfold joinEffect
  dsimp only
  split
  · exact (Act.update u a e _ _ ho he (peerFits_moved (e := e) ha (.inl rfl)) (fun _ => discardWrites_station)
      fun _ => rfl).acts.tail (.flag _ _)
  · exact excludePeer_acts ho ha he

theorem setFlagIf_acts {c : Instr} (b : Bool) (f : EventFlag) (s : State) : Acts c s (setFlagIf b f s) := by
  cases b
  · exact .refl
  · exact (Act.flag s f).acts

theorem receiveBeat_completes (a : Address) (q : Byte) (d : Half) (codes : Vector Byte 8) (s : State) :
    Completes (.receiveBeat a q d codes) s := by
  refine ⟨_, rfl, deliverFrame_acts s fun u e ho ha he => ?_⟩
  unfold beatEffect
  dsimp only
  split
  · exact (Act.update u a e _ _ ho he (peerFits_moved (e := e) ha (.inl rfl)) (fun _ => beatWrites_station) (by simp)).acts.trans
      (setFlagIf_acts _ _ _)
  · exact excludePeer_acts ho ha he

/-- A CHANGE, PROBE or CLEAR does the acts of its update and of its own effect, in the states that have them (R111 to R114). -/
theorem sequencedEffect_acts {c : Instr} {u : State} {a : Address} {e : PeerEntry} {q : Byte} {ws : List Write}
    {act : Bool → State → State} (ho : u.ctrl.station.online = true) (ha : a ≠ u.ctrl.settings.address)
    (he : peerAt u a = some e) (hws : ∀ w ∈ ws, w.key.station = a)
    (hact : ∀ gap x, a ≠ x.ctrl.settings.address → Acts c x (act gap x)) :
    Acts c u (sequencedEffect a q ws act e u) := by
  have hheard : Act c u (setPeer a (heardEntry q u e) u) := .hear u a e _ ho he rfl (peerFits_heard q ha he)
  have happlied (hst : e.state = .live ∨ e.state = .gapped) :
      Acts c u (act false (writeAndHear ws (withPeer a (heardEntry q u e) u.peers) u)) := by
    unfold writeAndHear
    split
    · exact hheard.acts.trans (hact false _ ha)
    · refine .trans (Act.update u a e _ ws ho he (peerFits_heard q ha he) hws ?_).acts (hact false _ ?_)
      · intro hgone
        dsimp only [heardEntry] at hgone
        rcases hst with hst | hst <;> simp [hst] at hgone
      · rwa [(applyUpdate_frame _ _ _).1.ctrl]
  unfold sequencedEffect
  dsimp only
  split
  next hst =>
    split
    · exact happlied (.inl hst)
    · refine .trans (.tail (Act.update u a e _ ws ho he ?_ hws (by simp)).acts (.flag _ _)) (hact true _ ?_)
      · intro _
        exact ⟨ha, by simp, by simp, by simp, by simp [heardEntry], fun _ => rfl, by simp⟩
      · rw [(setFlag_frame _ _).ctrl, (applyUpdate_frame _ _ _).1.ctrl]
        exact ha
  next hst => exact happlied (.inr hst)
  next => exact hheard.acts.tail (.insert _ _ ha)
  next => exact hheard.acts.tail (.insert _ _ ha)
  next => exact hheard.acts
  next => exact hheard.acts

theorem probeOnGap_acts {c : Instr} {a : Address} (gap : Bool) (s : State) (ha : a ≠ s.ctrl.settings.address) :
    Acts c s (probeOnGap a gap s) := by
  unfold probeOnGap
  split
  · exact (Act.insert s (.probe a) ha).acts
  · exact .refl

theorem receiveChange_completes (a : Address) (q : Byte) (l : List Byte) (s : State) : Completes (.receiveChange a q l) s := by
  refine ⟨_, rfl, ?_⟩
  split
  · exact deliverFrame_acts s fun u e ho ha he =>
      sequencedEffect_acts ho ha he (fun _ => changeWrites_station) fun gap x hx => probeOnGap_acts gap x hx
  · exact abandonFrame_acts _ s

theorem probeAct_acts {c : Instr} {a : Address} (targets : List Byte) (gap : Bool) (s : State)
    (ha : a ≠ s.ctrl.settings.address) : Acts c s (probeAct a targets gap s) := by
  have hprobe (u : State) (hu : u.ctrl = s.ctrl) : Act c u (insertItem (.probe a) u) := .insert u _ (by rwa [insertable, hu])
  have hbeat (u : State) : Act c u (insertItem .beat u) := .insert u _ trivial
  unfold probeAct
  split
  · split
    · split
      · exact ((Act.choices s (s.choices + 1)).acts.tail (hprobe _ rfl)).tail (hbeat _)
      · exact ((Act.choices s (s.choices + 1)).acts.tail (hbeat _)).tail (hprobe _ (by rw [insertItem_ctrl]; rfl))
    · exact (hbeat s).acts
  · exact probeOnGap_acts gap s ha

theorem receiveProbe_completes (a : Address) (q : Byte) (l : List Byte) (s : State) : Completes (.receiveProbe a q l) s := by
  refine ⟨_, rfl, ?_⟩
  split
  · exact deliverFrame_acts s fun u e ho ha he =>
      sequencedEffect_acts ho ha he (by simp) fun gap x hx => probeAct_acts l gap x hx
  · exact abandonFrame_acts _ s

theorem receiveClear_completes (a : Address) (q : Byte) (m : PointMask) (s : State) : Completes (.receiveClear a q m) s :=
  ⟨_, rfl, deliverFrame_acts s fun u e ho ha he =>
    sequencedEffect_acts ho ha he (by simp) fun gap x hx => (probeOnGap_acts gap x hx).tail (.clear _ m)⟩

theorem duplicateAddress_completes (s : State) : Completes .duplicateAddress s := by
  refine ⟨_, rfl, ?_⟩
  by_cases h : s.ctrl.station.online = true ∧ s.line.receiver.hasOpened = true
  · rw [reportDuplicate_taken h]
    exact Act.acts (.fault s .duplicateAddress _ (by simp) h.1 (by exact Nat.le_succ _) (by rfl))
  · rw [reportDuplicate_ignored h]

/-- Every command completes, by acts of its own. -/
theorem exec_completes (c : Instr) (s : State) : Completes c s := by
  cases c with
  | powerOn => exact ⟨_, rfl, (Act.reset s _ _ _ (.inl rfl)).acts⟩
  | rstLow m => exact rstLow_completes m s
  | rstHigh => exact rstHigh_completes s
  | startupComplete => exact startupComplete_completes s
  | csFalling => exact csFalling_completes s
  | csRising => exact csRising_completes s
  | unknownRequest b => exact unknownRequest_completes b s
  | setStation a r b n => exact setStation_completes a r b n s
  | setProfile i fl l h fh hy n se => exact setProfile_completes i fl l h fh hy n se s
  | setChannel ch e p => exact setChannel_completes ch e p s
  | setGroup g f u => exact setGroup_completes g f u s
  | stageBegin p => exact stageBegin_completes p s
  | stagePoint q m po la g x y => exact stagePoint_completes q m po la g x y s
  | stageAdd a ch => exact stageAdd_completes a ch s
  | commitPoint => exact commitPoint_completes s
  | dropPoint p => exact dropPoint_completes p s
  | start => exact start_completes s
  | validationEnd b => exact validationEnd_completes b s
  | readStatus => exact readStatus_completes s
  | readPoint p => exact readPoint_completes p s
  | readPointRecord p i => exact readPointRecord_completes p i s
  | readSource i => exact readSource_completes i s
  | readPeer a => exact readPeer_completes a s
  | readChannel ch => exact readChannel_completes ch s
  | readFirstOut g => exact readFirstOut_completes g s
  | readEvents => exact readEvents_completes s
  | setEventMask m => exact setEventMask_completes m s
  | ackFirstOut g => exact ackFirstOut_completes g s
  | clearPoints m b => exact clearPoints_completes m b s
  | restart => exact restart_completes s
  | clrFalling => exact clrFalling_completes s
  | clrRising => exact clrRising_completes s
  | clrQualified => exact clrQualified_completes s
  | listenPeriodExpiry => exact listenPeriodExpiry_completes s
  | settlePeriodExpiry => exact settlePeriodExpiry_completes s
  | beatTimerExpiry => exact beatTimerExpiry_completes s
  | confirmTimerExpiry p => exact confirmTimerExpiry_completes p s
  | releaseTimerExpiry p => exact releaseTimerExpiry_completes p s
  | silenceTimerExpiry a => exact silenceTimerExpiry_completes a s
  | healTimerExpiry a => exact healTimerExpiry_completes a s
  | scanStart => exact scanStart_completes s
  | conversionComplete v => exact conversionComplete_completes v s
  | slotStart => exact slotStart_completes s
  | frameComplete => exact frameComplete_completes s
  | abort => exact abort_completes s
  | receiveJoin a q d b m => exact receiveJoin_completes a q d b m s
  | receiveBeat a q d codes => exact receiveBeat_completes a q d codes s
  | receiveChange a q l => exact receiveChange_completes a q l s
  | receiveProbe a q l => exact receiveProbe_completes a q l s
  | receiveClear a q m => exact receiveClear_completes a q m s
  | receiveUnknownKind a => exact ⟨_, rfl, acceptFrame_acts s fun _ _ _ => .refl⟩
  | duplicateAddress => exact duplicateAddress_completes s
  | brokenFrame r => exact ⟨_, rfl, abandonFrame_acts r s⟩
  | characterGapTimeout => exact ⟨_, rfl, timeOutGap_acts s⟩
  | lineActivity => exact lineActivity_completes s

/-- Whatever a command leaves, it leaves by acts of its own. -/
theorem exec_acts {c : Instr} {s t : State} (h : exec c s = .next t) : Acts c s t := by
  obtain ⟨u, hu, hacts⟩ := exec_completes c s
  cases hu.symm.trans h
  exact hacts

/-- A property that time, the queue and the count of choices do not touch, and that every act keeps, is kept by every step. -/
theorem step_keeps {P : State → Prop} (hpending : ∀ s q, P s → P (s.setPending q))
    (hact : ∀ c s t, P s → Act c s t → P t) {s t : State} (hs : P s) (h : step s = .next t) : P t := by
  have hexec {c : Instr} {s t : State} (hs : P s) (h : exec c s = .next t) : P t := (exec_acts h).keeps (hact c) hs
  unfold step idleStep at h
  split at h
  · split at h
    · cases h
      exact hact .lineActivity _ _ hs (.elapse s 1)
    · exact hexec (hact .lineActivity _ _ hs (.choices s _)) h
  · exact hexec (hpending s _ hs) h

end Sys2Proof.Inversion
end

section
/-! START: the four checks in the words of the statements, a START that fails one and a START that passes them all (R87, R163,
R164, obligations O15 and O16). -/

namespace Sys2Proof.StartChecks

open Sys2Proof Sys2Proof.Machine Sys2Proof.Points Sys2Proof.ClassifierSettings

/-! ### Walks of the point table -/

/-- The first index with a property, as a search finds it. -/
theorem find?_finRange_eq_some {n : Nat} (P : Fin n → Bool) (i : Fin n) :
    (List.finRange n).find? P = some i ↔ firstWith (fun j => P j = true) i := by
  rw [List.find?_eq_some_iff_getElem, firstWith]
  refine and_congr_right fun _ => ⟨?_, ?_⟩
  · rintro ⟨k, hk, rfl, hbefore⟩ j hj
    have hlt : j.val < k := by
      rw [List.getElem_finRange] at hj
      exact hj
    simpa using hbefore j.val hlt
  · intro hbefore
    refine ⟨i.val, by simp, by simp, fun j hj => ?_⟩
    simpa using hbefore ⟨j, by omega⟩ hj

theorem find?_finRange_eq_none {n : Nat} (P : Fin n → Bool) :
    (List.finRange n).find? P = none ↔ ∀ i, P i ≠ true := by simp

theorem mem_presentRecords (t : PointTable) (p : PointNo) (r : PointRecord) :
    (p, r) ∈ presentRecords t ↔ t[p] = some r := by
  simp only [presentRecords, List.mem_filterMap, List.mem_finRange, true_and, Option.map_eq_some_iff, Prod.mk.injEq]
  exact ⟨fun ⟨_, _, h, hp, hr⟩ => hp ▸ hr ▸ h, fun h => ⟨p, r, h, rfl, rfl⟩⟩

/-- The pool holds the pairs that present records name. -/
theorem mem_poolEntries (t : PointTable) (k : SourceKey) : k ∈ poolEntries t ↔ named t k := by
  simp only [poolEntries, List.mem_flatMap, Prod.exists, mem_presentRecords, named, Option.mem_def]

theorem tableNames_iff (t : PointTable) (k : SourceKey) : tableNames t k = true ↔ named t k := by
  rw [tableNames, List.contains_iff_mem, mem_poolEntries]

theorem presentRecords_eq_nil_iff (t : PointTable) : presentRecords t = [] ↔ ∀ p : PointNo, t[p] = none := by
  simp [presentRecords]

theorem presentRecords_points (t : PointTable) :
    (presentRecords t).map (·.1) = (List.finRange 24).filter fun p => t[p].isSome := by
  unfold presentRecords
  induction List.finRange 24 with
  | nil => rfl
  | cons p l ih => cases h : t[p] <;> simp_all

/-- The contributors of the records up to a point, record by record. -/
theorem contributorsUpTo (t : PointTable) (p : PointNo) :
    (((presentRecords t).filter fun e => e.1 ≤ p).flatMap fun e => e.2.contributors) =
      ((List.finRange 24).filter (· ≤ p)).flatMap fun q => match t[q] with
        | some r => r.contributors
        | none => [] := by
  unfold presentRecords
  induction List.finRange 24 with
  | nil => rfl
  | cons q l ih => by_cases hq : q ≤ p <;> cases h : t[q] <;> simp_all

/-! ### The checks of START -/

theorem profileValid_iff (p : Profile) : p.valid = true ↔ ¬profileInvalid p := by
  simp only [Profile.valid, profileInvalid, Bool.and_eq_true, decide_eq_true_eq]
  omega

section
variable {s : State}

theorem ownDisabled_iff (ch : Channel) : ownDisabled s ch ↔
    (tableNames s.ctrl.points { station := s.ctrl.settings.address, channel := ch } && !s.chan.channels[ch].enabled) = true := by
  simp [ownDisabled, tableNames_iff]

theorem badProfile_iff (ch : Channel) : badProfile s ch ↔
    (s.chan.channels[ch].enabled && !s.chan.profiles[s.chan.channels[ch].profile].valid) = true := by
  rw [badProfile, Bool.and_eq_true, Bool.not_eq_true', ← Bool.not_eq_true, profileValid_iff, not_not]

theorem exceedsAt_iff (p : PointNo) : exceedsAt s p ↔
    (s.ctrl.points[p].isSome && decide (Config.sourceLimit < sourcesUpTo s.ctrl.points p)) = true := by
  rw [Bool.and_eq_true, decide_eq_true_eq, sourcesUpTo, distinctKeys_length, contributorsUpTo]
  rfl

theorem disabledContributor_some {ch : Channel} (h : firstWith (ownDisabled s) ch) :
    disabledContributor s.ctrl.settings.address s.ctrl.points s.chan.channels = some ch := by
  simp only [firstWith, ownDisabled_iff] at h
  exact (find?_finRange_eq_some _ ch).mpr h

theorem disabledContributor_none :
    disabledContributor s.ctrl.settings.address s.ctrl.points s.chan.channels = none ↔ ∀ ch, ¬ownDisabled s ch := by
  simp only [ownDisabled_iff]
  exact find?_finRange_eq_none _

theorem invalidProfile_some {ch : Channel} (h : firstWith (badProfile s) ch) :
    invalidProfile s.chan.channels s.chan.profiles = some s.chan.channels[ch].profile := by
  simp only [firstWith, badProfile_iff] at h
  have hfind := (find?_finRange_eq_some
    (fun j => s.chan.channels[j].enabled && !s.chan.profiles[s.chan.channels[j].profile].valid) ch).mpr h
  exact congrArg (Option.map fun j : Channel => s.chan.channels[j].profile) hfind

theorem invalidProfile_none :
    invalidProfile s.chan.channels s.chan.profiles = none ↔ ∀ ch, ¬badProfile s ch := by
  simp only [badProfile_iff]
  rw [invalidProfile, Option.map_eq_none_iff]
  exact find?_finRange_eq_none _

theorem sourceLimitPoint_eq (t : PointTable) : sourceLimitPoint t =
    (List.finRange 24).find? fun p => t[p].isSome && decide (Config.sourceLimit < sourcesUpTo t p) := by
  rw [sourceLimitPoint, presentRecords_points, List.find?_filter]
  simp

theorem sourceLimitPoint_some {p : PointNo} (h : firstWith (exceedsAt s) p) : sourceLimitPoint s.ctrl.points = some p := by
  simp only [firstWith, exceedsAt_iff] at h
  rw [sourceLimitPoint_eq]
  exact (find?_finRange_eq_some _ p).mpr h

theorem sourceLimitPoint_none : sourceLimitPoint s.ctrl.points = none ↔ ∀ p, ¬exceedsAt s p := by
  simp only [exceedsAt_iff]
  rw [sourceLimitPoint_eq]
  exact find?_finRange_eq_none _

theorem presentRecords_ne_nil_iff : presentRecords s.ctrl.points ≠ [] ↔ ∃ p : PointNo, s.ctrl.points[p].isSome = true := by
  simp only [ne_eq, presentRecords_eq_nil_iff, not_forall, Option.isSome_iff_ne_none]

/-- A START passes exactly when no check of R163 rejects it. -/
theorem startRejection_none : startRejection s.ctrl s.chan = none ↔ startPasses s := by
  rw [startPasses, ← presentRecords_ne_nil_iff, ← disabledContributor_none, ← invalidProfile_none, ← sourceLimitPoint_none,
    startRejection]
  by_cases hp : presentRecords s.ctrl.points = []
  · simp [hp]
  · cases disabledContributor s.ctrl.settings.address s.ctrl.points s.chan.channels <;>
      cases invalidProfile s.chan.channels s.chan.profiles <;> cases sourceLimitPoint s.ctrl.points <;> simp [hp]

/-! ### A rejected START (R163) -/

theorem atSetupEntry_fresh (r : ChannelRecord) : r.atSetupEntry = freshChannel false 0 r := rfl

theorem rejectStart_rejected (r : Rejection) : startRejected r s (rejectStart r s) := by
  refine ⟨rfl, fun ch => ?_, rfl, rfl, rfl, rfl, rfl, rfl, rfl, rfl, rfl, rfl⟩
  exact (atSetupEntry_channels s.chan ch).trans (atSetupEntry_fresh _)

theorem validationEnd_rejects {r : Rejection} (b : Bool) (hst : s.ctrl.station = .validating)
    (hr : startRejection s.ctrl s.chan = some r) :
    ∃ t, exec (.validationEnd b) s = .next t ∧ startRejected r s t := by
  refine ⟨rejectStart r s, ?_, rejectStart_rejected r⟩
  change execValidationEnd b s = _
  simp only [execValidationEnd, if_pos hst, hr]

end

/-- Settles O15: each check with the ones before it passed decides `startRejection`. -/
theorem failedChecksRejectTheStart : Obligations.FailedChecksRejectTheStart := by
  intro s b hst
  refine ⟨fun hnone => ?noPoints, fun hsome => ⟨fun ch hch => ?disabled, fun hnd => ⟨fun ch hch => ?profile,
    fun hnb p hp => ?limit⟩⟩⟩ <;> refine validationEnd_rejects b hst ?_
  case noPoints => rw [startRejection, if_pos ((presentRecords_eq_nil_iff _).mpr hnone)]
  case disabled => rw [startRejection, if_neg (presentRecords_ne_nil_iff.mpr hsome), disabledContributor_some hch]
  case profile =>
    rw [startRejection, if_neg (presentRecords_ne_nil_iff.mpr hsome), disabledContributor_none.mpr hnd,
      invalidProfile_some hch]
  case limit =>
    rw [startRejection, if_neg (presentRecords_ne_nil_iff.mpr hsome), disabledContributor_none.mpr hnd,
      invalidProfile_none.mpr hnb, sourceLimitPoint_some hp]

/-! ### A START that passes (R164) -/

theorem validationEnd_passes {s : State} (b : Bool) (hst : s.ctrl.station = .validating) (h : startPasses s) :
    exec (.validationEnd b) s = .next (enterListen b s) := by
  change execValidationEnd b s = _
  simp only [execValidationEnd, if_pos hst, startRejection_none.mpr h]

theorem enterListen_channel (b : Bool) (s : State) (ch : Channel) : (enterListen b s).chan.channels[ch] =
    freshChannel (tableNames s.ctrl.points { station := s.ctrl.settings.address, channel := ch })
      s.chan.channels[ch].lastCode s.chan.channels[ch] := by
  change (s.chan.atListenEntry s.ctrl.settings s.ctrl.points).channels[ch] = _
  simp only [Classifier.atListenEntry, Fin.getElem_fin, Vector.getElem_ofFn]
  rfl

theorem enterListen_group (b : Bool) (s : State) (g : GroupNo) : (enterListen b s).trip.groups[g] =
    { s.trip.groups[g] with asserting := [], output := s.trip.groups[g].startState.output } := by
  change (mapTable Group.atListenEntry s.trip.groups)[g.val] = _
  rw [mapTable_getElem]
  rfl

/-- Settles O16: LISTEN entry, block by block. -/
theorem passedChecksEnterListen : Obligations.PassedChecksEnterListen := by
  intro s b hst hpass
  refine ⟨_, validationEnd_passes b hst hpass, rfl, fun ch => ?channel, rfl, rfl, rfl, rfl, enterListen_group b s, rfl, rfl, rfl,
    rfl, rfl⟩
  case channel =>
    rw [enterListen_channel]
    exact ⟨rfl, tableNames_iff _ _⟩

end Sys2Proof.StartChecks
end

section
/-! The build of START: verdict table, contexts and peer table as LISTEN entry leaves them (R19, R20, R22 to R24, R39, R104,
obligation O17). -/

namespace Sys2Proof.Build

open Sys2Proof Sys2Proof.Machine Sys2Proof.Points Sys2Proof.StartChecks

/-! ### The verdict table (R19, R20, R22 to R24) -/

/-- The distinct pairs stand in ascending order, each once. -/
theorem distinctKeys_pairwise (l : List SourceKey) : (distinctKeys l).Pairwise fun a b => a.value < b.value := by
  have hle : (distinctKeys l).Pairwise fun a b => a.value ≤ b.value := (sortKeys_pairwise l).sublist (List.dedup_sublist _)
  exact (hle.and (List.nodup_dedup _)).imp fun ⟨hle, hne⟩ =>
    lt_of_le_of_ne hle fun he => hne (Inversion.value_injective he)

theorem distinctKeys_nodup (l : List SourceKey) : (distinctKeys l).Nodup := List.nodup_dedup _

theorem mem_distinctKeys (k : SourceKey) (l : List SourceKey) : k ∈ distinctKeys l ↔ k ∈ l := by
  rw [distinctKeys, List.mem_dedup, (sortKeys_perm l).mem_iff]

theorem builtEntry_key (own : Address) (t : PointTable) (k : SourceKey) : (builtEntry own t k).key = k := by
  unfold builtEntry
  split <;> rfl

theorem builtEntry_refs (own : Address) (t : PointTable) (k : SourceKey) : (builtEntry own t k).refs = referencesOf t k := by
  unfold builtEntry
  split <;> rfl

theorem buildSources_keys (own : Address) (t : PointTable) :
    (buildSources own t).map (·.key) = distinctKeys (poolEntries t) := by
  rw [buildSources, List.map_map]
  exact List.map_id'' (builtEntry_key own t) _

/-- An entry that the build makes is the one of its key. -/
theorem buildSources_entry {own : Address} {t : PointTable} {e : SourceEntry} (h : e ∈ buildSources own t) :
    e = builtEntry own t e.key := by
  obtain ⟨k, -, rfl⟩ := List.mem_map.mp h
  rw [builtEntry_key]

/-- One reference for each point whose list names the source, at its place in that list (R23). -/
theorem mem_referencesOf {t : PointTable} {k : SourceKey} (ht : ∀ p : PointNo, ∀ r ∈ t[p], r.contributors.Nodup)
    (p : PointNo) (i : Fin 8) : ({ point := p, position := i } : Reference) ∈ referencesOf t k ↔
      ∃ r ∈ t[p], r.contributors[i.val]? = some k := by
  simp only [referencesOf, List.mem_filterMap, Prod.exists, mem_presentRecords, Option.ite_none_right_eq_some,
    Option.map_eq_some_iff, Reference.mk.injEq, List.contains_iff_mem, indexBelow, Option.dite_none_right_eq_some]
  constructor
  · rintro ⟨q, r, hr, hk, j, ⟨hlt, hj⟩, rfl, rfl⟩
    refine ⟨r, hr, ?_⟩
    cases hj
    rw [List.getElem?_eq_getElem (List.idxOf_lt_length_of_mem hk), List.getElem_idxOf]
  · rintro ⟨r, hr, hk⟩
    obtain ⟨hlt, hget⟩ := List.getElem?_eq_some_iff.mp hk
    have hidx : r.contributors.idxOf k = i.val := by rw [← hget, (ht p r hr).idxOf_getElem]
    exact ⟨p, r, hr, hget ▸ List.getElem_mem hlt, i, ⟨hidx ▸ i.isLt, congrArg some (Fin.ext hidx)⟩, rfl, rfl⟩

/-- The references of a source stand in ascending point number (R23). -/
theorem referencesOf_pairwise (t : PointTable) (k : SourceKey) : (referencesOf t k).Pairwise fun x y => x.point < y.point := by
  have hpoints : (presentRecords t).Pairwise fun a b => a.1 < b.1 := by
    rw [← List.pairwise_map (f := Prod.fst), presentRecords_points]
    exact (List.pairwise_lt_finRange 24).filter _
  have href {e : PointNo × PointRecord} {x : Reference} (hx : (if e.2.contributors.contains k then
      (indexBelow 8 (e.2.contributors.idxOf k)).map fun i => ({ point := e.1, position := i } : Reference) else none) = some x) :
      x.point = e.1 := by
    rw [Option.ite_none_right_eq_some, Option.map_eq_some_iff] at hx
    obtain ⟨-, i, -, rfl⟩ := hx
    rfl
  refine List.pairwise_filterMap.mpr (hpoints.imp fun {a b} hab x hx y hy => ?_)
  rw [href hx, href hy]
  exact hab

theorem committed_nodup {r : PointRecord} (h : r.committed) : r.contributors.Nodup := by
  obtain ⟨-, -, hsorted, -⟩ := h
  exact hsorted.imp fun hlt he => absurd (he ▸ hlt) (lt_irrefl _)

/-! ### The contexts (R39) and the peer table (R104) -/

theorem buildContexts_getElem (t : PointTable) (p : PointNo) : (buildContexts t)[p] = t[p].map builtContext :=
  mapTable_getElem _ t p

/-- A context as built: every standing UNAVAILABLE, and so counted by the policy. -/
theorem builtContext_eq (r : PointRecord) : builtContext r =
    { state := .clear, standings := List.replicate r.contributors.length .unavailable, excursions := 0, normals := 0,
      unavailables := r.contributors.length
      count := if r.policy = .failtrip then r.contributors.length else 0
      effectiveQuorum := if r.policy = .degrade then max 1 (r.quorum - r.contributors.length) else r.quorum
      timer := none } := by
  have hs : r.contributors.map (fun _ => Standing.unavailable) = List.replicate r.contributors.length .unavailable :=
    List.map_const' ..
  have he : (List.replicate r.contributors.length Standing.unavailable).count .excursion = 0 := by
    simp [List.count_replicate]
  have hn : (List.replicate r.contributors.length Standing.unavailable).count .normal = 0 := by simp [List.count_replicate]
  simp only [builtContext, clearContext, recount, hs, he, hn, List.count_replicate_self]
  cases r.policy <;> simp [countAndQuorum]

theorem buildPeers_getElem (own a : Address) : (buildPeers own)[a] = builtPeer own a := by simp [buildPeers]

/-- Settles O17: each table as LISTEN entry builds it. -/
theorem startBuildsTheTables : Obligations.StartBuildsTheTables := by
  intro s b hst hpass htable
  have hnodup : ∀ p : PointNo, ∀ r ∈ s.ctrl.points[p], r.contributors.Nodup := fun p r hr => committed_nodup (htable.1 p r hr)
  have hkeys := buildSources_keys s.ctrl.settings.address s.ctrl.points
  refine ⟨_, validationEnd_passes b hst hpass, ?ascending, fun k => ?named, fun e he => ?entry, fun p => ?context, _, rfl,
    fun a => ?peer⟩
  case ascending =>
    change (buildSources s.ctrl.settings.address s.ctrl.points).Pairwise _
    rw [← List.pairwise_map (f := fun e : SourceEntry => e.key) (R := fun a b => a.value < b.value), hkeys]
    exact distinctKeys_pairwise _
  case named =>
    change (∃ e ∈ buildSources s.ctrl.settings.address s.ctrl.points, e.key = k) ↔ _
    rw [← mem_poolEntries, ← mem_distinctKeys, ← hkeys, List.mem_map]
  case entry =>
    rw [buildSources_entry he, builtEntry_key, builtEntry_refs]
    refine ⟨?_, fun hown => ?_, fun hother => ?_, referencesOf_pairwise _ _, mem_referencesOf hnodup⟩
    · unfold builtEntry
      split <;> rfl
    · rw [builtEntry, if_pos hown]
      exact ⟨rfl, rfl⟩
    · rw [builtEntry, if_neg hother]
      exact ⟨rfl, rfl⟩
  case context =>
    change (buildContexts s.ctrl.points)[p] = _
    rw [buildContexts_getElem]
    exact congrArg (fun f => s.ctrl.points[p].map f) (funext builtContext_eq)
  case peer => exact buildPeers_getElem _ a

end Sys2Proof.Build
end

section
/-! What the composite operations leave alone, and the first invariants: the point table (obligation O54) and the channel records
(obligation O56). -/

namespace Sys2Proof.Inversion

open Sys2Proof Sys2Proof.Machine

/-! ### What the composite operations leave -/

theorem enterFaulted_online {cause : FaultCause} {s : State} (h : s.ctrl.station.online = true) :
    enterFaulted cause s = setFlag .fault (((s.setCtrl (s.ctrl.atFaultedEntry cause)).setLine s.line.atFaultedEntry).setTrip
      { s.trip with groups := mapTable Group.atFaultedEntry s.trip.groups }) := if_pos h

/-- A frame start moves the line controller alone. -/
theorem startFrame_eq (s : State) : startFrame s = s.setLine (startFrame s).line := by
  unfold startFrame
  split <;> rfl

/-- A completed JOIN moves the queue, the beat timer and the settle period. -/
theorem joinCompleted_eq (s : State) : joinCompleted s =
    (s.setLine { s.line with queue := if s.ctrl.station.voting then queueInsert .beat s.line.queue else s.line.queue }).setCtrl
      { s.ctrl with beatTimer := some s.beatMs, settle := some (2 * s.beatMs) } := by
  unfold joinCompleted
  rw [insertItem_eq]
  rfl

/-- The state in which JOIN entry evaluates the points. -/
def joinBase (s : State) : State := (s.setCtrl { s.ctrl with station := .join, listen := none }).setLine
  { s.line with queue := s.line.queue ++ [.join], lastSender := assumeSender s.ctrl.settings.address s.line.lastSender }

theorem enterJoin_eq (s : State) : enterJoin s = evaluateAll (joinBase s) := by
  unfold enterJoin
  dsimp only
  rw [insertItem_eq]
  rfl

theorem enterJoin_frame (s : State) : VoteFrame (joinBase s) (enterJoin s) := enterJoin_eq s ▸ evaluateAll_frame _

theorem enterRun_frame (s : State) : VoteFrame (s.setCtrl { s.ctrl with station := .run, settle := none }) (enterRun s) :=
  runEntryOutputs_frame _

/-! ### The point table -/

/-- The invariant of the point table reads the table, its counts, the staging record and whether the tick counts. -/
theorem tableInv_congr {s t : State} (hs : TableInv s) (hpoints : t.ctrl.points = s.ctrl.points)
    (hcounts : t.ctrl.counts = s.ctrl.counts)
    (hclocked : t.ctrl.station.clocked = true → s.ctrl.station.clocked = true)
    (hstaging : t.port.staging = s.port.staging) : TableInv t := by
  obtain ⟨hrecords, hlists, hcount, hpool, hsources⟩ := hs
  rw [TableInv, hpoints, hcounts, hstaging]
  exact ⟨hrecords, hlists, hcount, hpool, fun h => hsources (hclocked h)⟩

/-- A change of the votes alone keeps the point table. -/
theorem tableInv_of_voteFrame {s t : State} (hs : TableInv s) (h : VoteFrame s t) : TableInv t :=
  tableInv_congr hs (by rw [h.ctrl]) (by rw [h.ctrl]) (by rw [h.ctrl]; exact id) h.staging

theorem tableInv_of_updateFrame {s t : State} (hs : TableInv s) (h : UpdateFrame s t) : TableInv t :=
  tableInv_congr hs (by rw [h.ctrl]) (by rw [h.ctrl]) (by rw [h.ctrl]; exact id) h.staging

/-- A START that passes has counted at most 48 distinct sources: the records up to the last present one are all of them (R163). -/
theorem sources_le_of_startPasses {s : State} (h : startPasses s) : (distinctKeys (poolEntries s.ctrl.points)).length ≤ 48 := by
  obtain ⟨⟨p, hp⟩, -, -, hlimit⟩ := h
  obtain ⟨m, hm, hmax⟩ := Finset.exists_max_image (Finset.univ.filter fun q : PointNo => s.ctrl.points[q].isSome = true) id
    ⟨p, by simpa using hp⟩
  have hm : s.ctrl.points[m].isSome = true := by simpa using hm
  have hall : (presentRecords s.ctrl.points).filter (fun e => e.1 ≤ m) = presentRecords s.ctrl.points := by
    refine List.filter_eq_self.mpr fun ⟨q, r⟩ hq => decide_eq_true (hmax q ?_)
    rw [StartChecks.mem_presentRecords] at hq
    exact Finset.mem_filter.mpr ⟨Finset.mem_univ q, by rw [hq]; rfl⟩
  have hcount := mt (StartChecks.exceedsAt_iff (s := s) m).mpr (hlimit m)
  rw [hm, Bool.true_and, decide_eq_true_eq, sourcesUpTo, hall, Config.sourceLimit, not_lt] at hcount
  exact hcount

theorem countTable_empty : countTable .empty = { points := 0, pool := 0, sources := 0 } := by decide

theorem powerOn_tableInv (q : List Instr) (p : InputPins) (n : Nat) (startup : Option Nat) :
    TableInv (State.inReset q p n startup) := by
  have hempty (p : PointNo) : (PointTable.empty)[p] = none := emptyPoints_getElem p
  refine ⟨fun p r hr => ?_, by simp [State.inReset, SetupPort.powerOn], countTable_empty.symm, Nat.zero_le _,
    fun h => by cases h⟩
  change (PointTable.empty)[p] = some r at hr
  cases (hempty p).symm.trans hr

theorem act_keeps_tableInv (c : Instr) (s t : State) (hs : TableInv s) (h : Act c s t) : TableInv t := by
  have hs' := hs
  obtain ⟨hrecords, hlists, hcount, hpool, hsources⟩ := hs'
  cases h with
  | pins | choices | press | flag | readFlags | ack | elapse | startup | settings | profile | channel | group | scan
  | sample | line | complete | abort | beatAgain | hear => exact hs
  | port p hf hstaging => exact ⟨hrecords, hstaging hlists, hcount, hpool, hsources⟩
  | reset => exact powerOn_tableInv ..
  | leaveReset hc hst => exact tableInv_congr hs rfl rfl (by simp [Machine.leaveReset, StationState.clocked]) rfl
  | table t hc hst ht =>
    obtain ⟨hrecords', hpool'⟩ := ht hs
    exact ⟨hrecords', hlists, rfl, hpool', by simp [Controller.withTable, hst, StationState.clocked]⟩
  | start hst => exact tableInv_congr hs rfl rfl (by simp [StationState.clocked]) rfl
  | reject r hc hst => exact tableInv_congr hs rfl rfl (by simp [rejectStart, setFlag, StationState.clocked]) rfl
  | listen b hc hst hr =>
    refine ⟨hrecords, hlists, hcount, hpool, fun _ => ?_⟩
    change s.ctrl.counts.sources ≤ 48
    rw [hcount]
    exact sources_le_of_startPasses (StartChecks.startRejection_none.mp hr)
  | restart hc hst =>
    refine ⟨hrecords, by simp [enterSetup, SetupPort.atRestart], rfl, by rw [hcount] at hpool; exact hpool, ?_⟩
    simp [enterSetup, Controller.atSetupEntry, StationState.clocked]
  | clear m => exact tableInv_of_voteFrame hs (takeClearMask_frame m s)
  | insert i hi => rw [insertItem_eq]; exact hs
  | ownWrite => exact tableInv_of_updateFrame hs (applyUpdate_frame _ _ s).1
  | send => rw [startFrame_eq]; exact hs
  | completeJoin f hv hf hk => rw [joinCompleted_eq]; exact hs
  | fault cause l hcause ho =>
    rw [enterFaulted_online (s := s.setLine l) ho]
    exact tableInv_congr hs rfl rfl (fun _ => clocked_of_online ho) rfl
  | update => exact tableInv_of_updateFrame hs (applyUpdate_frame _ _ s).1
  | join hst =>
    refine tableInv_of_voteFrame ?_ (enterJoin_frame s)
    exact tableInv_congr hs rfl rfl (by simp [hst, StationState.clocked]) rfl
  | run hst =>
    refine tableInv_of_voteFrame ?_ (enterRun_frame s)
    exact tableInv_congr hs rfl rfl (by simp [hst, StationState.clocked]) rfl
  | expiry => exact tableInv_of_voteFrame hs (evaluateAsCounted_frame _ _ s)

/-- Settles O54, act by act. -/
theorem stepsKeepThePointTableWellFormed : Obligations.StepsKeepThePointTableWellFormed := fun _ _ hs h =>
  step_keeps (fun _ _ hs => hs) act_keeps_tableInv hs h

/-- Settles O2: every command completes, and no act touches the queue. -/
theorem commandsCompleteAndLeaveTheQueue : Obligations.CommandsCompleteAndLeaveTheQueue := by
  intro c s
  obtain ⟨t, ht, hacts⟩ := exec_completes c s
  refine ⟨t, ht, hacts.keeps (P := fun u => u.pending = s.pending) (fun u v hu h => ?_) rfl⟩
  rw [← hu]
  cases h with
  | pins | choices | press | flag | readFlags | ack | elapse | startup | settings | profile | channel | group | scan
  | sample | line | complete | abort | beatAgain | hear | port | reset | leaveReset | table | start | reject | listen
  | restart => rfl
  | clear m => exact (takeClearMask_frame m _).pending
  | insert i hi => exact insertItem_pending i _
  | ownWrite | update => exact (applyUpdate_frame _ _ _).1.pending
  | send => rw [startFrame_eq]; rfl
  | completeJoin => rw [joinCompleted_eq]; rfl
  | fault cause l hcause ho => rw [enterFaulted_online (s := State.setLine _ l) ho]; rfl
  | join => exact (enterJoin_frame _).pending
  | run => exact (enterRun_frame _).pending
  | expiry => exact (evaluateAsCounted_frame _ _ _).pending

end Sys2Proof.Inversion
end

section
/-! The channel records: what holds of them before LISTEN and from LISTEN on, kept by every act (obligation O56). -/

namespace Sys2Proof.Channels

open Sys2Proof Sys2Proof.Machine Sys2Proof.Inversion

/-! ### The invariant before LISTEN and from LISTEN on -/

/-- A channel record before LISTEN: nothing sampled, nothing named. -/
def Unstarted (r : ChannelRecord) : Prop :=
  r.contributing = false ∧ (r.verdict = .off ∨ r.verdict = .unsettled) ∧ r.candidate = none ∧ r.lastCode = 0 ∧ r.count = 0

theorem channelInv_unclocked {s : State} (h : s.ctrl.station.clocked = false) : ChannelInv s ↔
    (∀ p : ProfileNo, s.chan.profiles[p].inRange) ∧ s.chan.scan = [] ∧ ∀ ch : Channel, Unstarted s.chan.channels[ch] := by
  constructor
  · rintro ⟨hprofiles, hsettled, hcontributing, -, hidle, -⟩
    obtain ⟨hscan, hrecords⟩ := hidle h
    refine ⟨hprofiles, hscan, fun ch => ?_⟩
    obtain ⟨hv, hcand, hcode⟩ := hrecords ch
    exact ⟨by rw [hcontributing, h, Bool.false_and], hv, hcand, hcode, (hsettled ch).1.mpr hcand⟩
  · rintro ⟨hprofiles, hscan, hrecords⟩
    refine ⟨hprofiles, fun ch => ?_, fun ch => ?_, by simp [h], fun _ => ⟨hscan, fun ch => ?_⟩, by simp [hscan], by simp [hscan]⟩
      <;> obtain ⟨hc, hv, hcand, hcode, hcount⟩ := hrecords ch
    · obtain ⟨-, -, -, -, -, hpersist, -⟩ := hprofiles s.chan.channels[ch].profile
      exact ⟨by simp only [hcount, hcand], by rw [hcount]; exact hpersist, by simp only [hcand]; simp, by simp only [hcode]; simp⟩
    · rw [hc, h, Bool.false_and]
    · exact ⟨hv, hcand, hcode⟩

/-- What a channel record has from LISTEN on, beside the profiles. -/
def Started (named : Bool) (profiles : Vector Profile 8) (r : ChannelRecord) : Prop :=
  r.settled profiles[r.profile].persistence ∧ r.contributing = named ∧ (r.verdict = .off ↔ r.enabled = false) ∧
    (r.enabled = false → r.candidate = none) ∧ (r.contributing = true → r.enabled = true)

theorem channelInv_clocked {s : State} (h : s.ctrl.station.clocked = true) : ChannelInv s ↔
    (∀ p : ProfileNo, s.chan.profiles[p].inRange) ∧
    (∀ ch : Channel, Started (tableNames s.ctrl.points { station := s.ctrl.settings.address, channel := ch })
      s.chan.profiles s.chan.channels[ch]) ∧
    (∀ ch ∈ s.chan.scan, s.chan.channels[ch].enabled = true) ∧ s.chan.scan.Pairwise (· < ·) := by
  constructor
  · rintro ⟨hprofiles, hsettled, hcontributing, hrecords, -, hscan, hascending⟩
    refine ⟨hprofiles, fun ch => ⟨hsettled ch, ?_, hrecords h ch⟩, hscan, hascending⟩
    rw [hcontributing, h, Bool.true_and]
  · rintro ⟨hprofiles, hrecords, hscan, hascending⟩
    refine ⟨hprofiles, fun ch => (hrecords ch).1, fun ch => ?_, fun _ ch => (hrecords ch).2.2, by simp [h], hscan, hascending⟩
    rw [h, Bool.true_and]
    exact (hrecords ch).2.1

/-- The invariant reads the classifier, the table, the own address and whether the tick counts. -/
theorem channelInv_congr {s t : State} (hs : ChannelInv s) (hchan : t.chan = s.chan) (hpoints : t.ctrl.points = s.ctrl.points)
    (hsettings : t.ctrl.settings = s.ctrl.settings) (hclocked : t.ctrl.station.clocked = s.ctrl.station.clocked) :
    ChannelInv t := by
  simp only [ChannelInv, hchan, hpoints, hsettings, hclocked]
  exact hs

theorem channelInv_of_voteFrame {s t : State} (hs : ChannelInv s) (h : VoteFrame s t) : ChannelInv t :=
  channelInv_congr hs h.chan (by rw [h.ctrl]) (by rw [h.ctrl]) (by rw [h.ctrl])

theorem channelInv_of_updateFrame {s t : State} (hs : ChannelInv s) (h : UpdateFrame s t) : ChannelInv t :=
  channelInv_congr hs h.chan (by rw [h.ctrl]) (by rw [h.ctrl]) (by rw [h.ctrl])

/-- Outside the states in which the tick counts nothing but the classifier matters. -/
theorem channelInv_still {s t : State} (hs : ChannelInv s) (hchan : t.chan = s.chan) (hsc : s.ctrl.station.clocked = false)
    (htc : t.ctrl.station.clocked = false) : ChannelInv t := by
  rw [channelInv_unclocked htc, hchan]
  exact (channelInv_unclocked hsc).mp hs

/-! ### The records at the entries -/

theorem unstarted_atSetupEntry (r : ChannelRecord) : Unstarted r.atSetupEntry := by
  refine ⟨rfl, ?_, rfl, rfl, rfl⟩
  cases h : r.enabled <;> simp [ChannelRecord.atSetupEntry, h]

theorem channelInv_atSetupEntry {s t : State} (hs : ChannelInv s) (hchan : t.chan = s.chan.atSetupEntry)
    (htc : t.ctrl.station.clocked = false) : ChannelInv t := by
  rw [channelInv_unclocked htc, hchan]
  refine ⟨hs.1, rfl, fun ch => ?_⟩
  rw [ClassifierSettings.atSetupEntry_channels]
  exact unstarted_atSetupEntry _

theorem channelInv_powerOn {t : State} (hchan : t.chan = .powerOn) (htc : t.ctrl.station.clocked = false) : ChannelInv t := by
  rw [channelInv_unclocked htc, hchan]
  refine ⟨fun p => ?_, rfl, fun ch => ?_⟩
  · have hp : Classifier.powerOn.profiles[p] = .powerOn := by simp [Classifier.powerOn]
    rw [hp]
    simp [Profile.inRange, Profile.powerOn]
  · rw [ClassifierSettings.powerOn_channels]
    exact ⟨rfl, .inl rfl, rfl, rfl, rfl⟩

theorem enabledChannels_pairwise (v : Vector ChannelRecord 8) : (enabledChannels v).Pairwise (· < ·) :=
  (List.pairwise_lt_finRange 8).filter _

theorem mem_enabledChannels (v : Vector ChannelRecord 8) (ch : Channel) : ch ∈ enabledChannels v ↔ v[ch].enabled = true := by
  rw [enabledChannels, List.mem_filter]
  exact and_iff_right (List.mem_finRange ch)

/-- LISTEN entry: a channel named by an own contributor is enabled, since check 2 has passed (R87, R88). -/
theorem channelInv_enterListen {s : State} (b : Bool) (hs : ChannelInv s) (hst : s.ctrl.station = .validating)
    (hpass : startPasses s) : ChannelInv (enterListen b s) := by
  obtain ⟨hprofiles, hscan, hrecords⟩ := (channelInv_unclocked (by rw [hst]; rfl)).mp hs
  obtain ⟨-, henabled, -, -⟩ := hpass
  refine (channelInv_clocked rfl).mpr ⟨hprofiles, fun ch => ?_, fun ch hch => ?_, enabledChannels_pairwise _⟩
  · obtain ⟨-, -, -, hcode, -⟩ := hrecords ch
    rw [StartChecks.enterListen_channel]
    have hpersist : 1 ≤ s.chan.profiles[s.chan.channels[ch].profile].persistence :=
      (hprofiles s.chan.channels[ch].profile).2.2.2.2.2.1
    refine ⟨⟨by simp [freshChannel], hpersist, by simp [freshChannel], by simp only [freshChannel, hcode]; simp⟩, rfl, ?_,
      fun _ => rfl, fun hnamed => ?_⟩
    · cases h : s.chan.channels[ch].enabled <;> simp only [freshChannel, h] <;> decide
    · have hnot := henabled ch
      rw [ownDisabled, not_and, Bool.not_eq_false] at hnot
      exact hnot ((StartChecks.tableNames_iff _ _).mp hnamed)
  · rw [StartChecks.enterListen_channel]
    exact (mem_enabledChannels _ ch).mp hch

/-! ### A sample (R93) -/

/-- A sample keeps the candidate and the count settled, whatever its class. -/
theorem settled_persist {n : Nat} {r : ChannelRecord} (k : SampleClass) (hn : 1 ≤ n) (hcode : r.lastCode ≤ 4095) :
    (persist n r k).settled n := by
  unfold persist
  split
  · exact ⟨by simp, hn, by simp, hcode⟩
  next hk =>
    split
    · exact ⟨by simp, hn, by simp, hcode⟩
    next hlen =>
      have hpos : 1 ≤ runLength r k := by
        unfold runLength
        split <;> omega
      refine ⟨by simp; omega, by simpa using hlen, ?_, hcode⟩
      rintro k' hk'
      cases hk'
      exact hk

@[simp] theorem sampledRecord_enabled (p : Profile) (r : ChannelRecord) (code : Nat) :
    (sampledRecord p r code).enabled = r.enabled := by
  unfold sampledRecord persist
  split
  · rfl
  · split <;> rfl

@[simp] theorem sampledRecord_profile (p : Profile) (r : ChannelRecord) (code : Nat) :
    (sampledRecord p r code).profile = r.profile := by
  unfold sampledRecord persist
  split
  · rfl
  · split <;> rfl

theorem started_sampledRecord {named : Bool} {profiles : Vector Profile 8} {r : ChannelRecord} {code : Nat}
    (h : Started named profiles r) (hp : profiles[r.profile].inRange) (hcode : code ≤ 4095) (he : r.enabled = true) :
    Started named profiles (sampledRecord profiles[r.profile] r code) := by
  generalize hprofile : profiles[r.profile] = p at hp ⊢
  have hprofile' : profiles[(sampledRecord p r code).profile] = p := by simp only [sampledRecord_profile, hprofile]
  obtain ⟨hsettled, hnamed, hoff, -, -⟩ := h
  obtain ⟨-, -, -, -, -, hpersist, -⟩ := hp
  obtain ⟨hcount, hlt, hcand, -⟩ := settled_persist (classOf p r.verdict code) hpersist hsettled.2.2.2
  rw [Started, hprofile']
  have hne : r.verdict ≠ .off := fun hv => by simp [hoff.mp hv] at he
  refine ⟨⟨hcount, hlt, hcand, hcode⟩, by rw [sampledRecord_contributing, hnamed], ?_, ?_, ?_⟩ <;>
    simp only [sampledRecord_enabled, he]
  · by_cases hv : (sampledRecord p r code).verdict = r.verdict
    · simp [hv, hne]
    · simp [sampledRecord_verdict_ne_off hv]
  · simp
  · simp

theorem channelInv_sample {s : State} {ch : Channel} {rest : List Channel} {code : Nat} (hs : ChannelInv s)
    (hst : s.ctrl.station.clocked = true) (hscan : s.chan.scan = ch :: rest) (hcode : code ≤ 4095) :
    ChannelInv (s.setChan { s.chan with
      channels := setAt s.chan.channels ch
        (sampledRecord s.chan.profiles[s.chan.channels[ch].profile] s.chan.channels[ch] code)
      scan := rest }) := by
  obtain ⟨hprofiles, hrecords, henabled, hascending⟩ := (channelInv_clocked hst).mp hs
  rw [hscan] at hascending henabled
  refine (channelInv_clocked (by exact hst)).mpr ⟨hprofiles, fun i => ?_, fun i hi => ?_, hascending.of_cons⟩ <;>
    simp only [State.setChan_chan, State.setChan_ctrl, setAt_getElem]
  · split
    next hi =>
      subst hi
      exact started_sampledRecord (hrecords i) (hprofiles _) hcode (henabled i List.mem_cons_self)
    next => exact hrecords i
  · split
    next heq =>
      rw [sampledRecord_enabled]
      exact henabled ch List.mem_cons_self
    next => exact henabled i (List.mem_cons_of_mem _ hi)

theorem act_keeps_channelInv (c : Instr) (s t : State) (hs : ChannelInv s) (h : Act c s t) : ChannelInv t := by
  have hsetup (hst : s.ctrl.station = .setup) : s.ctrl.station.clocked = false := by rw [hst]; rfl
  cases h with
  | pins | choices | press | flag | readFlags | port | ack | elapse | startup | group | line | complete | abort | beatAgain
  | hear => exact hs
  | reset => exact channelInv_powerOn rfl rfl
  | leaveReset hc hst => exact channelInv_still hs rfl (by rw [hst]; rfl) rfl
  | settings x hc hst => exact channelInv_still hs rfl (hsetup hst) (hsetup hst)
  | profile i p hc hst hp =>
    obtain ⟨hprofiles, hrest⟩ := (channelInv_unclocked (hsetup hst)).mp hs
    refine (channelInv_unclocked (by exact hsetup hst)).mpr ⟨fun j => ?_, hrest⟩
    simp only [State.setChan_chan, setAt_getElem]
    split
    · exact hp
    · exact hprofiles j
  | channel ch e p hc hst =>
    obtain ⟨hprofiles, hscan, hrecords⟩ := (channelInv_unclocked (hsetup hst)).mp hs
    refine (channelInv_unclocked (by exact hsetup hst)).mpr ⟨hprofiles, hscan, fun i => ?_⟩
    simp only [State.setChan_chan, setAt_getElem]
    split
    · exact hrecords ch
    · exact hrecords i
  | table u hc hst => exact channelInv_still hs rfl (hsetup hst) (hsetup hst)
  | start hst => exact channelInv_still hs rfl (hsetup hst) rfl
  | reject r hc hst => exact channelInv_atSetupEntry hs rfl rfl
  | listen b hc hst hr => exact channelInv_enterListen b hs hst (StartChecks.startRejection_none.mp hr)
  | restart hc hst => exact channelInv_atSetupEntry hs rfl rfl
  | clear m => exact channelInv_of_voteFrame hs (takeClearMask_frame m s)
  | insert i hi => rw [insertItem_eq]; exact hs
  | scan hst =>
    obtain ⟨hprofiles, hrecords, -, -⟩ := (channelInv_clocked hst).mp hs
    exact (channelInv_clocked (by exact hst)).mpr ⟨hprofiles, hrecords, fun ch hch => (mem_enabledChannels _ ch).mp hch,
      enabledChannels_pairwise _⟩
  | sample ch rest code hst hscan hcode => exact channelInv_sample hs hst hscan hcode
  | ownWrite | update => exact channelInv_of_updateFrame hs (applyUpdate_frame _ _ s).1
  | send => rw [startFrame_eq]; exact hs
  | completeJoin => rw [joinCompleted_eq]; exact hs
  | fault cause l hcause ho =>
    rw [enterFaulted_online (s := s.setLine l) ho]
    exact channelInv_congr hs rfl rfl rfl (clocked_of_online ho).symm
  | join hst =>
    refine channelInv_of_voteFrame ?_ (enterJoin_frame s)
    exact channelInv_congr hs rfl rfl rfl (by rw [hst]; rfl)
  | run hst =>
    refine channelInv_of_voteFrame ?_ (enterRun_frame s)
    exact channelInv_congr hs rfl rfl rfl (by rw [hst]; rfl)
  | expiry => exact channelInv_of_voteFrame hs (evaluateAsCounted_frame _ _ s)

/-- Settles O56, act by act. -/
theorem stepsKeepChannelRecords : Obligations.StepsKeepChannelRecords := fun _ _ hs h =>
  step_keeps (fun _ _ hs => hs) act_keeps_channelInv hs h

end Sys2Proof.Channels
end

section
/-! The verdict table and the peer table: keys and references, SELF at the own address, timers, and UNKNOWN for the sources of peers
not heard, kept by every act (obligation O57). -/

namespace Sys2Proof.Sources

open Sys2Proof Sys2Proof.Machine Sys2Proof.Inversion

/-! ### Writes and entries -/

/-- Writes to one station reach no key of another. -/
theorem lastWrite_other {ws : List Write} {a : Address} {k : SourceKey} (hws : ∀ w ∈ ws, w.key.station = a)
    (hk : k.station ≠ a) : lastWrite ws k = none := by
  have hnone : (ws.filter fun w => w.key == k) = [] := by
    refine List.filter_eq_nil_iff.mpr fun w hw => ?_
    rw [beq_iff_eq]
    exact fun he => hk (he ▸ hws w hw)
  rw [lastWrite, hnone]
  rfl

/-- A write among several is not lost: the last one to its key is among them, too. -/
theorem lastWrite_mem {ws : List Write} {w : Write} (hw : w ∈ ws) :
    ∃ w' ∈ ws, w'.key = w.key ∧ lastWrite ws w.key = some w'.verdict := by
  have hmem : w ∈ ws.filter fun x => x.key == w.key := List.mem_filter.mpr ⟨hw, beq_self_eq_true _⟩
  obtain ⟨w', hlast⟩ := Option.isSome_iff_exists.mp
    (List.getLast?_isSome.mpr (List.ne_nil_of_mem hmem))
  obtain ⟨hw', hkey⟩ := List.mem_filter.mp (List.mem_of_getLast? hlast)
  exact ⟨w', hw', beq_iff_eq.mp hkey, by rw [lastWrite, hlast]; rfl⟩

/-- A LINE entry of a peer that is discarded takes UNKNOWN (R31). -/
theorem lastWrite_discard {a : Address} {l : List SourceEntry} {e : SourceEntry} (he : e ∈ l) (ha : e.key.station = a)
    (ho : e.origin = .line) : lastWrite (discardWrites a l) e.key = some .unknown := by
  have hmem : ({ key := e.key, verdict := .unknown } : Write) ∈ discardWrites a l :=
    List.mem_map.mpr ⟨e, List.mem_filter.mpr ⟨he, by simp [ha, ho]⟩, rfl⟩
  obtain ⟨w, hw, -, hlast⟩ := lastWrite_mem hmem
  obtain ⟨x, -, rfl⟩ := List.mem_map.mp hw
  exact hlast

theorem entryAfter_none {tick : Tick} {ws : List Write} {e : SourceEntry} (h : lastWrite ws e.key = none) :
    entryAfter tick ws e = e := by
  unfold entryAfter
  rw [h]

/-! ### The state of a station -/

theorem peerAt_eq_some {s : State} {a : Address} {e : PeerEntry} (h : peerAt s a = some e) :
    ∃ v, s.peers = some v ∧ v[a] = e := by
  simpa only [peerAt, Option.map_eq_some_iff] using h

theorem stationState_withPeer {own a : Address} {v : PeerTable} {e : PeerEntry} (b : Address) :
    stationState own (withPeer a e (some v)) b = if b = a then e.state else stationState own (some v) b := by
  simp only [withPeer, Option.map_some, stationState, setAt_getElem]
  split <;> rfl

/-- A peer entry that moves with its state as it was leaves the state of every station as it was. -/
theorem stationState_hear {s : State} {own a : Address} {e e' : PeerEntry} (he : peerAt s a = some e)
    (hs : e'.state = e.state) (b : Address) : stationState own (withPeer a e' s.peers) b = stationState own s.peers b := by
  obtain ⟨v, hv, rfl⟩ := peerAt_eq_some he
  rw [hv, stationState_withPeer]
  split
  next hb => rw [hb, hs]; rfl
  next => rfl

theorem stationState_elapse (own : Address) (n : Nat) (s : State) (b : Address) :
    stationState own (elapse n s).peers b = stationState own s.peers b := by
  change stationState own (runPeers n s.ctrl.station s.peers) b = _
  unfold runPeers
  split
  · cases s.peers with
    | none => rfl
    | some v => exact (congrArg PeerEntry.state (mapTable_getElem (PeerEntry.runDown n) v b) :)
  · rfl

theorem own_is_self {s : State} (h : PeerInv s) (hst : s.ctrl.station.clocked = true) :
    stationState s.ctrl.settings.address s.peers s.ctrl.settings.address = .self := by
  obtain ⟨hsome, hentries⟩ := h
  obtain ⟨v, hv⟩ := Option.isSome_iff_exists.mp (hsome.mpr hst)
  have hown := hentries v hv s.ctrl.settings.address
  rw [if_pos rfl] at hown
  rw [hv]
  simp only [stationState, hown, builtPeer, if_pos]

/-! ### The invariant in its station states -/

/-- What the invariant says of one source entry. -/
def EntryFits (own : Address) (points : PointTable) (state : Address → PeerState) (e : SourceEntry) : Prop :=
  e.refs = referencesOf points e.key ∧ e.origin = (if e.key.station = own then .own else .line) ∧
    (e.key.station = own → e.verdict ≠ .unknown ∧ e.verdict ≠ .line .off) ∧
    (state e.key.station = .unheard ∨ state e.key.station = .silent ∨ state e.key.station = .excluded → e.verdict = .unknown)

theorem verdictInv_iff (s : State) : VerdictInv s ↔ PeerInv s ∧
    s.sources.map (·.key) = (if s.ctrl.station.clocked then distinctKeys (poolEntries s.ctrl.points) else []) ∧
    ∀ e ∈ s.sources,
      EntryFits s.ctrl.settings.address s.ctrl.points (stationState s.ctrl.settings.address s.peers) e := Iff.rfl

/-- Outside LISTEN, JOIN, RUN and FAULTED neither table stands. -/
theorem verdictInv_unclocked {s : State} (h : s.ctrl.station.clocked = false) :
    VerdictInv s ↔ s.peers = none ∧ s.sources = [] := by
  rw [verdictInv_iff, PeerInv, h]
  constructor
  · rintro ⟨⟨hsome, -⟩, hkeys, -⟩
    exact ⟨by simpa using hsome, by simpa using hkeys⟩
  · rintro ⟨hpeers, hsources⟩
    simp [hpeers, hsources]

theorem verdictInv_congr {s t : State} (hs : VerdictInv s) (hpeers : t.peers = s.peers) (hsources : t.sources = s.sources)
    (hpoints : t.ctrl.points = s.ctrl.points) (hsettings : t.ctrl.settings = s.ctrl.settings)
    (hclocked : t.ctrl.station.clocked = s.ctrl.station.clocked) : VerdictInv t := by
  rw [VerdictInv, PeerInv, State.beatMs, hpeers, hsources, hpoints, hsettings, hclocked]
  exact hs

theorem verdictInv_of_voteFrame {s t : State} (hs : VerdictInv s) (h : VoteFrame s t) : VerdictInv t :=
  verdictInv_congr hs h.peers h.sources (by rw [h.ctrl]) (by rw [h.ctrl]) (by rw [h.ctrl])

/-- Where no table stands nothing of the configuration matters. -/
theorem verdictInv_still {s t : State} (hs : VerdictInv s) (hpeers : t.peers = s.peers) (hsources : t.sources = s.sources)
    (hsc : s.ctrl.station.clocked = false) (htc : t.ctrl.station.clocked = false) : VerdictInv t := by
  rw [verdictInv_unclocked htc, hpeers, hsources]
  exact (verdictInv_unclocked hsc).mp hs

theorem verdictInv_enterListen (b : Bool) (s : State) : VerdictInv (enterListen b s) := by
  change PeerInv (enterListen b s) ∧ (buildSources s.ctrl.settings.address s.ctrl.points).map (·.key) = _ ∧
    ∀ e ∈ buildSources s.ctrl.settings.address s.ctrl.points, EntryFits s.ctrl.settings.address s.ctrl.points
      (stationState s.ctrl.settings.address (some (buildPeers s.ctrl.settings.address))) e
  refine ⟨⟨Iff.intro (fun _ => rfl) fun _ => rfl, ?_⟩, Build.buildSources_keys _ _, fun e he => ?_⟩
  · intro t ht a
    cases ht
    rw [Build.buildPeers_getElem]
    split
    next ha => rw [ha]; rfl
    next ha =>
      rw [builtPeer, if_neg (by exact ha)]
      exact ⟨by simp, by simp, by simp, by simp, by simp, by simp⟩
  · have hstate (a : Address) : stationState s.ctrl.settings.address (some (buildPeers s.ctrl.settings.address)) a =
        if a = s.ctrl.settings.address then .self else .unheard :=
      congrArg PeerEntry.state (Build.buildPeers_getElem _ a)
    rw [Build.buildSources_entry he]
    simp only [EntryFits, Build.builtEntry_key, Build.builtEntry_refs, hstate, true_and]
    unfold builtEntry
    split
    next hown => simp [hown]
    next hown => simp [hown]

/-! ### Time -/

theorem peerInv_elapse {n : Nat} {s : State} (h : PeerInv s) : PeerInv (elapse n s) := by
  obtain ⟨hsome, hentries⟩ := h
  change ((runPeers n s.ctrl.station s.peers).isSome = true ↔ _) ∧
    ∀ t ∈ runPeers n s.ctrl.station s.peers, _
  unfold runPeers
  split
  next =>
    refine ⟨by rw [Option.isSome_map]; exact hsome, fun t ht a => ?_⟩
    obtain ⟨v, hv, rfl⟩ := Option.map_eq_some_iff.mp ht
    have hentry := hentries v hv a
    have hget : (mapTable (PeerEntry.runDown n) v)[a] = v[a].runDown n := mapTable_getElem _ v a
    rw [hget]
    change if a = s.ctrl.settings.address then _ else _
    split
    next ha =>
      rw [if_pos ha] at hentry
      rw [hentry]
      rfl
    next ha =>
      rw [if_neg ha] at hentry
      obtain ⟨hself, hheal, hhealmax, hsilmax, hsil, hunheard⟩ := hentry
      refine ⟨hself, ?_, fun t ht => ?_, fun t ht => ?_, fun hst => ?_, hunheard⟩
      · simpa only [PeerEntry.runDown, runDown, Option.isSome_map] using hheal
      · obtain ⟨x, hx, rfl⟩ := Option.map_eq_some_iff.mp ht
        exact (Nat.sub_le x n).trans (hhealmax x hx)
      · obtain ⟨x, hx, rfl⟩ := Option.map_eq_some_iff.mp ht
        exact (Nat.sub_le x n).trans (hsilmax x hx)
      · simpa only [PeerEntry.runDown, runDown, Option.isSome_map] using hsil hst
  next => exact ⟨hsome, hentries⟩

theorem verdictInv_elapse {n : Nat} {s : State} (h : VerdictInv s) : VerdictInv (elapse n s) := by
  rw [verdictInv_iff] at h ⊢
  obtain ⟨hpeer, hkeys, hentries⟩ := h
  refine ⟨peerInv_elapse hpeer, hkeys, fun e he => ?_⟩
  simp only [EntryFits, elapse_settings, elapse_points, stationState_elapse]
  exact hentries e he

/-! ### Peer entries and updates -/

theorem peerInv_setPeer {s : State} {a : Address} {e e' : PeerEntry} (h : PeerInv s) (he : peerAt s a = some e)
    (hfit : peerFits s a e') : PeerInv (setPeer a e' s) := by
  obtain ⟨ha, hself, hfits⟩ := hfit h
  obtain ⟨hsome, hentries⟩ := h
  obtain ⟨v, hv, rfl⟩ := peerAt_eq_some he
  have hset : (setPeer a e' s).peers = some (setAt v a e') := by rw [setPeer, hv]; rfl
  rw [hv] at hsome
  refine ⟨by rw [hset]; exact hsome, ?_⟩
  rw [hset]
  rintro t ht b
  cases ht
  have hentry := hentries v hv b
  change if b = s.ctrl.settings.address then (setAt v a e')[b] = builtPeer s.ctrl.settings.address b
    else (setAt v a e')[b].state ≠ .self ∧ (setAt v a e')[b].fits s.beatMs
  by_cases hba : b = a
  · rw [if_neg (hba ▸ ha), setAt_getElem, if_pos hba]
    exact ⟨hself, hfits⟩
  · rw [setAt_getElem_ne _ _ _ _ hba]
    exact hentry

/-- The verdict table after an update: what it says of the entries, beside what it says of the keys. -/
theorem verdictInv_applyUpdate {s : State} {ws : List Write} {after : Option PeerTable} (hs : VerdictInv s)
    (hpeer : PeerInv (s.setPeers after))
    (hentries : ∀ e ∈ s.sources, EntryFits s.ctrl.settings.address s.ctrl.points
      (stationState s.ctrl.settings.address after) (entryAfter s.ctrl.tick ws e)) :
    VerdictInv (applyUpdate ws after s) := by
  obtain ⟨hframe, hpeers, hsources⟩ := applyUpdate_frame ws after s
  obtain ⟨-, hkeys, -⟩ := hs
  have hbase : VerdictInv ((s.setSources (s.sources.map (entryAfter s.ctrl.tick ws))).setPeers after) := by
    refine ⟨hpeer, ?_, fun e' he' => ?_⟩
    · change (s.sources.map (entryAfter s.ctrl.tick ws)).map (·.key) = _
      rw [List.map_map]
      exact (List.map_congr_left fun e _ => entryAfter_key _ _ e).trans hkeys
    · obtain ⟨e, he, rfl⟩ := List.mem_map.mp he'
      exact hentries e he
  exact verdictInv_congr hbase hpeers hsources (by rw [hframe.ctrl]; rfl) (by rw [hframe.ctrl]; rfl) (by rw [hframe.ctrl]; rfl)

theorem verdictInv_hear {s : State} {a : Address} {e e' : PeerEntry} (hs : VerdictInv s) (he : peerAt s a = some e)
    (hstate : e'.state = e.state) (hfit : peerFits s a e') : VerdictInv (setPeer a e' s) := by
  rw [verdictInv_iff] at hs ⊢
  obtain ⟨hpeer, hkeys, hentries⟩ := hs
  refine ⟨peerInv_setPeer hpeer he hfit, hkeys, fun x hx => ?_⟩
  have hsame : stationState s.ctrl.settings.address (setPeer a e' s).peers = stationState s.ctrl.settings.address s.peers :=
    funext (stationState_hear he hstate)
  change EntryFits s.ctrl.settings.address s.ctrl.points (stationState s.ctrl.settings.address (setPeer a e' s).peers) x
  rw [hsame]
  exact hentries x hx

theorem verdictInv_update {s : State} {a : Address} {e e' : PeerEntry} {ws : List Write} (hs : VerdictInv s)
    (he : peerAt s a = some e) (hfit : peerFits s a e') (hws : ∀ w ∈ ws, w.key.station = a)
    (hgone : e'.state = .unheard ∨ e'.state = .silent ∨ e'.state = .excluded → ws = discardWrites a s.sources) :
    VerdictInv (applyUpdate ws (withPeer a e' s.peers) s) := by
  obtain ⟨hpeer, -, hentries⟩ := (verdictInv_iff s).mp hs
  obtain ⟨hown, -, -⟩ := hfit hpeer
  refine verdictInv_applyUpdate hs (peerInv_setPeer hpeer he hfit) fun x hx => ?_
  obtain ⟨hrefs, horigin, hownVerdict, hunheard⟩ := hentries x hx
  obtain ⟨v, hv, -⟩ := peerAt_eq_some he
  rw [EntryFits, entryAfter_key, entryAfter_refs, entryAfter_origin, hv, stationState_withPeer]
  by_cases hxa : x.key.station = a
  · have hnotOwn : x.key.station ≠ s.ctrl.settings.address := fun h => hown (hxa ▸ h)
    refine ⟨hrefs, horigin, fun h => absurd h hnotOwn, ?_⟩
    rw [if_pos hxa]
    intro hgone'
    rw [if_neg hnotOwn] at horigin
    rw [hgone hgone']
    exact entryAfter_verdict (lastWrite_discard hx hxa horigin)
  · rw [if_neg hxa, entryAfter_none (lastWrite_other hws hxa), ← hv]
    exact ⟨hrefs, horigin, hownVerdict, hunheard⟩

/-- A write of the own station's that is neither UNKNOWN nor OFF (R27). -/
theorem verdictInv_ownWrite {s : State} {w : Write} (hs : VerdictInv s) (hst : s.ctrl.station.online = true)
    (hk : w.key.station = s.ctrl.settings.address) (hw : w.verdict ≠ .unknown ∧ w.verdict ≠ .line .off) :
    VerdictInv (applyUpdate [w] s.peers s) := by
  obtain ⟨hpeer, -, hentries⟩ := (verdictInv_iff s).mp hs
  refine verdictInv_applyUpdate hs hpeer fun x hx => ?_
  obtain ⟨hrefs, horigin, -, -⟩ := hentries x hx
  by_cases hkey : w.key = x.key
  · have hverdict : (entryAfter s.ctrl.tick [w] x).verdict = w.verdict :=
      entryAfter_verdict (by rw [lastWrite_single, if_pos hkey])
    have hown : x.key.station = s.ctrl.settings.address := by rw [← hkey, hk]
    rw [EntryFits, entryAfter_key, entryAfter_refs, entryAfter_origin, hverdict, hown,
      own_is_self hpeer (clocked_of_online hst)]
    exact ⟨hrefs, by rw [horigin, hown], fun _ => hw, by simp⟩
  · rw [entryAfter_none (by rw [lastWrite_single, if_neg hkey])]
    exact hentries x hx

theorem act_keeps_verdictInv (c : Instr) (s t : State) (hs : VerdictInv s) (h : Act c s t) : VerdictInv t := by
  have hsetup (hst : s.ctrl.station = .setup) : s.ctrl.station.clocked = false := by rw [hst]; rfl
  cases h with
  | pins | choices | press | flag | readFlags | port | ack | startup | profile | channel | group | scan | sample | line
  | complete | abort | beatAgain => exact hs
  | elapse n => exact verdictInv_elapse hs
  | reset => exact (verdictInv_unclocked rfl).mpr ⟨rfl, rfl⟩
  | leaveReset hc hst => exact verdictInv_still hs rfl rfl (by rw [hst]; rfl) rfl
  | settings x hc hst => exact verdictInv_still hs rfl rfl (hsetup hst) (hsetup hst)
  | table u hc hst => exact verdictInv_still hs rfl rfl (hsetup hst) (hsetup hst)
  | start hst => exact verdictInv_still hs rfl rfl (hsetup hst) rfl
  | reject r hc hst => exact verdictInv_still hs rfl rfl (by rw [hst]; rfl) rfl
  | listen b => exact verdictInv_enterListen b s
  | restart => exact (verdictInv_unclocked rfl).mpr ⟨rfl, rfl⟩
  | clear m => exact verdictInv_of_voteFrame hs (takeClearMask_frame m s)
  | insert i hi => rw [insertItem_eq]; exact hs
  | ownWrite ch v hst hv => exact verdictInv_ownWrite hs hst rfl ⟨by simp, by simpa using hv⟩
  | send => rw [startFrame_eq]; exact hs
  | completeJoin => rw [joinCompleted_eq]; exact hs
  | fault cause l hcause ho =>
    rw [enterFaulted_online (s := s.setLine l) ho]
    exact verdictInv_congr hs rfl rfl rfl rfl (clocked_of_online ho).symm
  | hear a e e' ho he hstate hfit => exact verdictInv_hear hs he hstate hfit
  | update a e e' ws ho he hfit hws hgone => exact verdictInv_update hs he hfit hws hgone
  | join hst =>
    refine verdictInv_of_voteFrame ?_ (enterJoin_frame s)
    exact verdictInv_congr hs rfl rfl rfl rfl (by rw [hst]; rfl)
  | run hst =>
    refine verdictInv_of_voteFrame ?_ (enterRun_frame s)
    exact verdictInv_congr hs rfl rfl rfl rfl (by rw [hst]; rfl)
  | expiry => exact verdictInv_of_voteFrame hs (evaluateAsCounted_frame _ _ s)

/-- Settles O57, act by act. -/
theorem stepsKeepUnheardSourcesUnknown : Obligations.StepsKeepUnheardSourcesUnknown := fun _ _ hs h =>
  step_keeps (fun _ _ hs => hs) act_keeps_verdictInv hs h

end Sys2Proof.Sources
end

section
/-! The vote engine: what one evaluation makes of a context, what several of them make of the context table, and the invariant that
ties each point's state to its counts (obligation O58). -/

namespace Sys2Proof.Votes

open Sys2Proof Sys2Proof.Machine Sys2Proof.Inversion

/-! ### One evaluation -/

/-- The context an evaluation leaves. -/
def moved (r : PointRecord) (d : PointContext) (why : Cause) : PointContext :=
  { d with state := (transition r d why).1, timer := (transition r d why).2 }

/-- After the counts are looked at afresh, a context makes the one transition of section 3.4 that they call for. -/
theorem moved_counts (r : PointRecord) (d : PointContext) : moved r d .counts = movedByCounts r d := by
  obtain ⟨state, standings, e, n, u, count, quorum, timer⟩ := d
  by_cases hq : quorum ≤ count
  · have hreached : (PointContext.mk state standings e n u count quorum timer).reached = true := decide_eq_true hq
    cases state <;> simp only [moved, movedByCounts, transition, hreached, hq, if_true, Nat.pos_iff_ne_zero] <;>
      by_cases hconfirm : r.confirm = 0 <;> simp [hconfirm]
  · have hreached : (PointContext.mk state standings e n u count quorum timer).reached = false := decide_eq_false hq
    cases state <;> simp only [moved, movedByCounts, transition, hreached, hq, Bool.false_eq_true, if_false,
      Nat.pos_iff_ne_zero]
    cases r.latched <;> by_cases hrelease : r.release = 0 <;> simp [hrelease]

theorem settleEvaluation_context (p : PointNo) (r : PointRecord) (d : PointContext) (why : Cause) (s : State) :
    (settleEvaluation p r d why s).contexts[p] = some (moved r d why) := by
  rw [settleEvaluation_contexts, setAt_getElem, if_pos rfl]
  rfl

/-- What becomes of a context that is evaluated where its point has a record: nothing without a record or a context. -/
def evaluatedBy (F : PointRecord → PointContext → PointContext) : Option PointRecord → Option PointContext → Option PointContext
  | some r, some c => some (F r c)
  | some _, none => none
  | none, o => o

@[simp] theorem evaluatedBy_some (F : PointRecord → PointContext → PointContext) (r : PointRecord) (c : PointContext) :
    evaluatedBy F (some r) (some c) = some (F r c) := rfl

@[simp] theorem evaluatedBy_noRecord (F : PointRecord → PointContext → PointContext) (o : Option PointContext) :
    evaluatedBy F none o = o := rfl

@[simp] theorem evaluatedBy_noContext (F : PointRecord → PointContext → PointContext) (o : Option PointRecord) :
    evaluatedBy F o none = none := by cases o <;> rfl

@[simp] theorem evaluatedBy_isSome (F : PointRecord → PointContext → PointContext) (o : Option PointRecord)
    (o' : Option PointContext) : (evaluatedBy F o o').isSome = o'.isSome := by cases o <;> cases o' <;> rfl

theorem evaluate_context (p : PointNo) (why : Cause) (f : PointRecord → List Standing → List Standing) (s : State) :
    (evaluate p why f s).contexts[p] =
      evaluatedBy (fun r c => moved r (recount r (f r c.standings) c) why) s.ctrl.points[p] s.contexts[p] := by
  cases hr : s.ctrl.points[p] with
  | none => simp only [evaluate, hr, evaluatedBy_noRecord]
  | some r =>
    cases hc : s.contexts[p] with
    | none => simp only [evaluate, hr, hc, evaluatedBy_noContext]
    | some c => rw [evaluate_some why f hr hc, settleEvaluation_context, evaluatedBy_some]

theorem evaluateAsCounted_context (p : PointNo) (why : Cause) (s : State) :
    (evaluateAsCounted p why s).contexts[p] =
      evaluatedBy (fun r c => moved r c why) s.ctrl.points[p] s.contexts[p] := by
  cases hr : s.ctrl.points[p] with
  | none => simp only [evaluateAsCounted, hr, evaluatedBy_noRecord]
  | some r =>
    cases hc : s.contexts[p] with
    | none => simp only [evaluateAsCounted, hr, hc, evaluatedBy_noContext]
    | some c => rw [evaluateAsCounted_some why hr hc, settleEvaluation_context, evaluatedBy_some]

/-! ### Evaluations of distinct points -/

/-- Evaluations of distinct points, each of which makes of its own context what `F` says and leaves every other alone. -/
theorem foldl_contexts {α : Type} {f : State → α → State} {point : α → PointNo}
    {F : α → Option PointContext → Option PointContext} {base : State}
    (hframe : ∀ s a, VoteFrame s (f s a))
    (hown : ∀ s a, VoteFrame base s → (f s a).contexts[point a] = F a s.contexts[point a])
    (hother : ∀ s a (q : PointNo), q ≠ point a → (f s a).contexts[q] = s.contexts[q])
    (l : List α) (hl : (l.map point).Nodup) (s : State) (hs : VoteFrame base s) :
    (∀ a ∈ l, (l.foldl f s).contexts[point a] = F a s.contexts[point a]) ∧
      ∀ q : PointNo, q ∉ l.map point → (l.foldl f s).contexts[q] = s.contexts[q] := by
  induction l generalizing s with
  | nil => exact ⟨by simp, fun _ _ => rfl⟩
  | cons a l ih =>
    rw [List.map_cons, List.nodup_cons] at hl
    obtain ⟨hnotin, hnodup⟩ := hl
    obtain ⟨hin, hout⟩ := ih hnodup (f s a) (hs.trans (hframe s a))
    refine ⟨fun b hb => ?_, fun q hq => ?_⟩
    · rcases List.mem_cons.mp hb with rfl | hb
      · exact (hout _ hnotin).trans (hown s b hs)
      · have hne : point b ≠ point a := fun he => hnotin (he ▸ List.mem_map_of_mem hb)
        exact (hin b hb).trans (congrArg (F b) (hother s a _ hne))
    · rw [List.map_cons, List.mem_cons, not_or] at hq
      exact (hout q hq.2).trans (hother s a q hq.1)

/-- The standings that the tables derive are read from the controller's settings, the peers and the sources. -/
theorem derivedStandings_congr {s t : State} (hsettings : t.ctrl.settings = s.ctrl.settings) (hpeers : t.peers = s.peers)
    (hsources : t.sources = s.sources) (r : PointRecord) : derivedStandings t r = derivedStandings s r := by
  simp only [derivedStandings, hsettings, hpeers, hsources]

/-- JOIN entry evaluates every point once over the standings the tables derive (R59). -/
theorem evaluateAll_context (s : State) (p : PointNo) :
    (evaluateAll s).contexts[p] =
      evaluatedBy (fun r c => movedByCounts r (recount r (derivedStandings s r) c)) s.ctrl.points[p] s.contexts[p] := by
  have hown (u : State) (q : PointNo) (hu : VoteFrame s u) : (joinEntryPoint u q).contexts[q] =
      evaluatedBy (fun r c => movedByCounts r (recount r (derivedStandings s r) c)) s.ctrl.points[q] u.contexts[q] := by
    rw [joinEntryPoint, evaluate_context, hu.ctrl]
    simp only [moved_counts, derivedStandings_congr (t := u) (s := s) (by rw [hu.ctrl]) hu.peers hu.sources]
  have hfold := foldl_contexts (point := fun q => q) (fun s p => evaluate_frame p _ _ s) hown
    (fun u q q' hne => evaluate_contexts_ne q q' _ _ u hne) (List.finRange 24)
    (by simpa using List.nodup_finRange 24) s (.refl s)
  exact hfold.1 p (List.mem_finRange p)

/-! ### The invariant of one context -/

/-- A point stands in ARMING or TRIPPED exactly when its count reaches its effective quorum (R56). -/
def Settled (c : PointContext) : Prop := c.state = .arming ∨ c.state = .tripped ↔ c.effectiveQuorum ≤ c.count

/-- Counts taken afresh and the transition they call for leave a context that fits and is settled, whatever it was before. -/
theorem fits_movedByCounts {r : PointRecord} {c : PointContext} {l : List Standing} (hc : contextFits r c)
    (hl : l.length = r.contributors.length) :
    contextFits r (movedByCounts r (recount r l c)) ∧ Settled (movedByCounts r (recount r l c)) := by
  obtain ⟨-, -, htimer, hheld, hreleasing⟩ := hc
  have hd : (recount r l c).standings.length = r.contributors.length ∧
      (recount r l c) = recount r (recount r l c).standings (recount r l c) ∧ timerFits r (recount r l c) ∧
      ((recount r l c).state = .held → r.latched = true) ∧ ((recount r l c).state = .releasing → r.latched = false) :=
    ⟨hl, rfl, htimer, hheld, hreleasing⟩
  generalize recount r l c = d at hd ⊢
  obtain ⟨hlen, hcounts, htimer, hheld, hreleasing⟩ := hd
  have hfits {x : PointState} {t : Option PointTimer} (ht : timerFits r { d with state := x, timer := t })
      (hh : x = .held → r.latched = true) (hr : x = .releasing → r.latched = false) :
      contextFits r { d with state := x, timer := t } := by
    refine ⟨hlen, ?_, ht, hh, hr⟩
    have hcounts' := congrArg (fun d : PointContext => { d with state := x, timer := t }) hcounts
    exact hcounts'
  unfold movedByCounts
  by_cases hq : d.effectiveQuorum ≤ d.count
  · rw [if_pos hq]
    split
    next hst =>
      split
      · exact ⟨hfits ⟨rfl, le_rfl⟩ (by simp) (by simp), by simp [Settled, hq]⟩
      · exact ⟨hfits rfl (by simp) (by simp), by simp [Settled, hq]⟩
    next hst => exact ⟨⟨hlen, hcounts, htimer, hheld, hreleasing⟩, by simp [Settled, hq, hst]⟩
    next hst => exact ⟨⟨hlen, hcounts, htimer, hheld, hreleasing⟩, by simp [Settled, hq, hst]⟩
    all_goals exact ⟨hfits rfl (by simp) (by simp), by simp [Settled, hq]⟩
  · rw [if_neg hq]
    split
    next hst => exact ⟨⟨hlen, hcounts, htimer, hheld, hreleasing⟩, by simp [Settled, hq, hst]⟩
    next hst => exact ⟨⟨hlen, hcounts, htimer, hheld, hreleasing⟩, by simp [Settled, hq, hst]⟩
    next hst => exact ⟨⟨hlen, hcounts, htimer, hheld, hreleasing⟩, by simp [Settled, hq, hst]⟩
    next hst => exact ⟨hfits rfl (by simp) (by simp), by simp [Settled, hq]⟩
    next hst =>
      split
      next hlatched => exact ⟨hfits rfl (fun _ => hlatched) (by simp), by simp [Settled, hq]⟩
      next hlatched =>
        split
        · exact ⟨hfits ⟨rfl, le_rfl⟩ (by simp) (fun _ => by simpa using hlatched), by simp [Settled, hq]⟩
        · exact ⟨hfits rfl (by simp) (by simp), by simp [Settled, hq]⟩

theorem confirmExpiry_still {r : PointRecord} {c : PointContext} (h : c.state ≠ .arming) :
    transition r c .confirmExpiry = (c.state, c.timer) := by cases hst : c.state <;> simp_all [transition]

theorem releaseExpiry_still {r : PointRecord} {c : PointContext} (h : c.state ≠ .releasing) :
    transition r c .releaseExpiry = (c.state, c.timer) := by cases hst : c.state <;> simp_all [transition]

theorem clear_still {r : PointRecord} {c : PointContext} (h : c.state ≠ .held) :
    transition r c .clear = (c.state, c.timer) := by cases hst : c.state <;> simp_all [transition]

/-- A timer expiry or a clear keeps a context that fits and is settled so: the counts are those there were (R41). -/
theorem fits_moved {r : PointRecord} {c : PointContext} {why : Cause} (hwhy : why ≠ .counts) (hc : contextFits r c)
    (hsettled : Settled c) : contextFits r (moved r c why) ∧ Settled (moved r c why) := by
  have hsame (h : transition r c why = (c.state, c.timer)) : moved r c why = c := by rw [moved, h]
  obtain ⟨hlen, hcounts, htimer, hheld, hreleasing⟩ := hc
  have hfits {x : PointState} (ht : timerFits r { c with state := x, timer := none })
      (hx : x = .tripped ∨ x = .clear) : contextFits r { c with state := x, timer := none } := by
    refine ⟨hlen, ?_, ht, ?_, ?_⟩
    · have hcounts' := congrArg (fun d : PointContext => { d with state := x, timer := none }) hcounts
      exact hcounts'
    · rcases hx with rfl | rfl <;> simp
    · rcases hx with rfl | rfl <;> simp
  have hstill (h : transition r c why = (c.state, c.timer)) : contextFits r (moved r c why) ∧ Settled (moved r c why) := by
    rw [hsame h]
    exact ⟨⟨hlen, hcounts, htimer, hheld, hreleasing⟩, hsettled⟩
  cases why with
  | counts => exact absurd rfl hwhy
  | confirmExpiry =>
    by_cases hst : c.state = .arming
    · have ht : moved r c .confirmExpiry = { c with state := .tripped, timer := none } := by simp [moved, transition, hst]
      rw [ht]
      exact ⟨hfits rfl (.inl rfl), by simpa [Settled, hst] using hsettled⟩
    · exact hstill (confirmExpiry_still hst)
  | releaseExpiry =>
    by_cases hst : c.state = .releasing
    · have ht : moved r c .releaseExpiry = { c with state := .clear, timer := none } := by simp [moved, transition, hst]
      rw [ht]
      exact ⟨hfits rfl (.inr rfl), by simpa [Settled, hst] using hsettled⟩
    · exact hstill (releaseExpiry_still hst)
  | clear =>
    by_cases hst : c.state = .held
    · have ht : moved r c .clear = { c with state := .clear, timer := none } := by simp [moved, transition, hst]
      rw [ht]
      exact ⟨hfits rfl (.inr rfl), by simpa [Settled, hst] using hsettled⟩
    · exact hstill (clear_still hst)

/-! ### The invariant of the context table -/

/-- What the invariant says of one context in a station state. -/
def PointFits (st : StationState) (r : PointRecord) (c : PointContext) : Prop :=
  contextFits r c ∧ (st = .listen → c = builtContext r) ∧ (st.voting = true → Settled c)

theorem voteInv_unclocked {s : State} (h : s.ctrl.station.clocked = false) :
    VoteInv s ↔ ∀ p : PointNo, s.contexts[p] = none := by
  constructor
  · exact fun hs => hs.1 h
  · intro hnone
    refine ⟨fun _ => hnone, by simp [h], fun p r hr c hc => ?_⟩
    rw [hnone p] at hc
    cases hc

theorem voteInv_clocked {s : State} (h : s.ctrl.station.clocked = true) : VoteInv s ↔
    (∀ p : PointNo, s.contexts[p].isSome = s.ctrl.points[p].isSome) ∧
      ∀ p : PointNo, ∀ r ∈ s.ctrl.points[p], ∀ c ∈ s.contexts[p], PointFits s.ctrl.station r c := by
  refine ⟨fun ⟨_, hsome, hfits⟩ => ⟨hsome h, hfits⟩, fun ⟨hsome, hfits⟩ => ⟨by simp [h], fun _ => hsome, hfits⟩⟩

theorem voteInv_congr {s t : State} (hs : VoteInv s) (hcontexts : t.contexts = s.contexts)
    (hpoints : t.ctrl.points = s.ctrl.points) (hstation : t.ctrl.station = s.ctrl.station) : VoteInv t := by
  rw [VoteInv, hcontexts, hpoints, hstation]
  exact hs

/-- Where no context stands nothing else matters. -/
theorem voteInv_still {s t : State} (hs : VoteInv s) (hcontexts : t.contexts = s.contexts)
    (hsc : s.ctrl.station.clocked = false) (htc : t.ctrl.station.clocked = false) : VoteInv t := by
  rw [voteInv_unclocked htc, hcontexts]
  exact (voteInv_unclocked hsc).mp hs

theorem clocked_of_voting {st : StationState} (h : st.voting = true) : st.clocked = true :=
  clocked_of_online (online_of_voting h)

theorem not_listen_of_voting {st : StationState} (h : st.voting = true) : st ≠ .listen := by
  rintro rfl
  cases h

/-- In JOIN and RUN an evaluation that keeps its own context fitting and settled keeps the invariant. -/
theorem voteInv_evaluated {s t : State} {p : PointNo} (hs : VoteInv s) (hst : s.ctrl.station.voting = true)
    (hctrl : t.ctrl = s.ctrl) (hother : ∀ q : PointNo, q ≠ p → t.contexts[q] = s.contexts[q])
    {F : PointRecord → PointContext → PointContext}
    (hown : t.contexts[p] = evaluatedBy F s.ctrl.points[p] s.contexts[p])
    (hF : ∀ r c, contextFits r c → Settled c → contextFits r (F r c) ∧ Settled (F r c)) : VoteInv t := by
  obtain ⟨hsome, hfits⟩ := (voteInv_clocked (clocked_of_voting hst)).mp hs
  refine (voteInv_clocked (by rw [hctrl]; exact clocked_of_voting hst)).mpr ⟨fun q => ?_, fun q r hr c hc => ?_⟩
  · rw [hctrl, ← hsome q]
    by_cases hq : q = p
    · subst hq
      rw [hown, evaluatedBy_isSome]
    · rw [hother q hq]
  · rw [hctrl] at hr ⊢
    by_cases hq : q = p
    · subst hq
      obtain ⟨d, hd⟩ := Option.isSome_iff_exists.mp ((hsome q).trans (Option.isSome_iff_exists.mpr ⟨r, hr⟩))
      rw [hown, hr, hd, evaluatedBy_some] at hc
      cases hc
      obtain ⟨hdfits, -, hdsettled⟩ := hfits q r hr d hd
      obtain ⟨hcfits, hcsettled⟩ := hF r d hdfits (hdsettled hst)
      exact ⟨hcfits, fun h => absurd h (not_listen_of_voting hst), fun _ => hcsettled⟩
    · rw [hother q hq] at hc
      exact hfits q r hr c hc

theorem voteInv_evaluateAsCounted {s : State} {p : PointNo} {why : Cause} (hs : VoteInv s)
    (hst : s.ctrl.station.voting = true) (hwhy : why ≠ .counts) : VoteInv (evaluateAsCounted p why s) :=
  voteInv_evaluated hs hst (evaluateAsCounted_frame p why s).ctrl
    (fun q hq => evaluateAsCounted_contexts_ne p q why s hq) (evaluateAsCounted_context p why s)
    fun _ _ => fits_moved hwhy

theorem writeChanges_length (cs : List Change) (l : List Standing) : (writeChanges cs l).length = l.length := by
  unfold writeChanges
  induction cs generalizing l with
  | nil => rfl
  | cons x cs ih => exact (ih _).trans List.length_set

/-- One notice writes its changes, counts afresh and makes one transition (R41, R42). -/
theorem takeNotice_context (s : State) (n : Notice) : (takeNotice s n).contexts[n.point] =
    evaluatedBy (fun r c => movedByCounts r (recount r (writeChanges n.changes c.standings) c)) s.ctrl.points[n.point]
      s.contexts[n.point] := by
  simp only [takeNotice, evaluate_context, moved_counts]

theorem takeNotice_contexts_ne (s : State) (n : Notice) (q : PointNo) (hq : q ≠ n.point) :
    (takeNotice s n).contexts[q] = s.contexts[q] := evaluate_contexts_ne n.point q _ _ s hq

theorem voteInv_takeNotice {s : State} (n : Notice) (hs : VoteInv s) (hst : s.ctrl.station.voting = true) :
    VoteInv (takeNotice s n) :=
  voteInv_evaluated hs hst (takeNotice_frame s n).ctrl (takeNotice_contexts_ne s n) (takeNotice_context s n)
    fun _ _ hfits _ => fits_movedByCounts hfits ((writeChanges_length _ _).trans hfits.1)

/-- What every evaluation of a row of them keeps, the row keeps. -/
theorem foldl_keeps {α : Type} {P : State → Prop} {f : State → α → State} (hf : ∀ s a, P s → P (f s a)) (l : List α)
    {s : State} (hs : P s) : P (l.foldl f s) := by
  induction l generalizing s with
  | nil => exact hs
  | cons a l ih => exact ih (hf s a hs)

theorem voteInv_takeClearMask {m : PointMask} {s : State} (hs : VoteInv s) : VoteInv (takeClearMask m s) := by
  unfold takeClearMask
  split
  next hst =>
    refine (foldl_keeps (P := fun u => VoteInv u ∧ u.ctrl = s.ctrl) (fun u p ⟨hu, hctrl⟩ => ⟨?_, ?_⟩) _ ⟨hs, rfl⟩).1
    · exact voteInv_evaluateAsCounted hu (by rw [hctrl, hst]; rfl) (by simp)
    · exact (evaluateAsCounted_frame p _ u).ctrl.trans hctrl
  next => exact hs

theorem voteInv_applyUpdate {ws : List Write} {after : Option PeerTable} {s : State} (hs : VoteInv s) :
    VoteInv (applyUpdate ws after s) := by
  unfold applyUpdate
  dsimp only
  split
  next hst =>
    have hbase : VoteInv (((s.setSources (s.sources.map (entryAfter s.ctrl.tick ws))).setPeers after).setChoices
        (s.choices + 1)) := hs
    refine (foldl_keeps (P := fun u => VoteInv u ∧ u.ctrl = s.ctrl) (fun u n ⟨hu, hctrl⟩ => ⟨?_, ?_⟩) _ ⟨hbase, rfl⟩).1
    · exact voteInv_takeNotice n hu (by rw [hctrl, hst])
    · exact (takeNotice_frame u n).ctrl.trans hctrl
  next => exact hs

/-! ### Entries and time -/

theorem builtContext_fits (r : PointRecord) : contextFits r (builtContext r) :=
  ⟨List.length_map _, rfl, rfl, by simp [builtContext, clearContext], by simp [builtContext, clearContext]⟩

theorem enterListen_context (b : Bool) (s : State) (p : PointNo) :
    (enterListen b s).contexts[p] = s.ctrl.points[p].map builtContext := Build.buildContexts_getElem s.ctrl.points p

theorem voteInv_enterListen (b : Bool) (s : State) : VoteInv (enterListen b s) := by
  have hpoints : (enterListen b s).ctrl.points = s.ctrl.points := rfl
  refine (voteInv_clocked rfl).mpr ⟨fun p => ?_, fun p r hr c hc => ?_⟩
  · rw [enterListen_context, Option.isSome_map, hpoints]
  · rw [hpoints] at hr
    rw [enterListen_context, Option.mem_def.mp hr] at hc
    cases hc
    exact ⟨builtContext_fits r, fun _ => rfl, fun h => by cases h⟩

theorem voteInv_enterJoin {s : State} (hs : VoteInv s) (hst : s.ctrl.station = .listen) : VoteInv (enterJoin s) := by
  obtain ⟨hsome, hfits⟩ := (voteInv_clocked (by rw [hst]; rfl)).mp hs
  have hctrl : (enterJoin s).ctrl = { s.ctrl with station := .join, listen := none } := (enterJoin_frame s).ctrl
  have hcontext (p : PointNo) : (enterJoin s).contexts[p] = evaluatedBy
      (fun r c => movedByCounts r (recount r (derivedStandings (joinBase s) r) c)) s.ctrl.points[p] s.contexts[p] :=
    enterJoin_eq s ▸ evaluateAll_context (joinBase s) p
  refine (voteInv_clocked (by rw [hctrl]; rfl)).mpr ⟨fun p => ?_, fun p r hr c hc => ?_⟩
  · rw [hcontext, hctrl, evaluatedBy_isSome]
    exact hsome p
  · simp only [hctrl] at hr ⊢
    obtain ⟨d, hd⟩ := Option.isSome_iff_exists.mp ((hsome p).trans (Option.isSome_iff_exists.mpr ⟨r, hr⟩))
    rw [hcontext, Option.mem_def.mp hr, hd, evaluatedBy_some] at hc
    cases hc
    obtain ⟨hdfits, -, -⟩ := hfits p r hr d hd
    obtain ⟨hcfits, hsettled⟩ := fits_movedByCounts (l := derivedStandings (joinBase s) r) hdfits (List.length_map _)
    exact ⟨hcfits, by simp, fun _ => hsettled⟩

theorem fits_runDown {r : PointRecord} {c : PointContext} (n : Nat) (h : contextFits r c) :
    contextFits r (c.runDown n) ∧ (Settled c → Settled (c.runDown n)) := by
  obtain ⟨hlen, hcounts, htimer, hheld, hreleasing⟩ := h
  refine ⟨⟨hlen, congrArg (PointContext.runDown n) hcounts, ?_, hheld, hreleasing⟩, id⟩
  obtain ⟨state, standings, e, m, u, count, quorum, timer⟩ := c
  cases state <;> cases timer <;> simp only [timerFits, PointContext.runDown, Option.map_none, Option.map_some] at htimer ⊢
  case arming.some => exact ⟨htimer.1, (Nat.sub_le _ _).trans htimer.2⟩
  case releasing.some => exact ⟨htimer.1, (Nat.sub_le _ _).trans htimer.2⟩
  all_goals exact absurd htimer (by simp)

theorem elapse_context (n : Nat) (s : State) (p : PointNo) : (elapse n s).contexts[p] =
    if s.ctrl.station.voting then s.contexts[p].map (PointContext.runDown n) else s.contexts[p] := by
  change (runContexts n s.ctrl.station s.contexts)[p] = _
  unfold runContexts
  split
  · exact mapTable_getElem _ s.contexts p
  · rfl

theorem voteInv_elapse {n : Nat} {s : State} (hs : VoteInv s) : VoteInv (elapse n s) := by
  cases hst : s.ctrl.station.voting with
  | false =>
    have hcontexts : (elapse n s).contexts = s.contexts := by simp [elapse, runContexts, hst]
    exact voteInv_congr hs hcontexts rfl rfl
  | true =>
    obtain ⟨hsome, hfits⟩ := (voteInv_clocked (clocked_of_voting hst)).mp hs
    refine (voteInv_clocked (by exact clocked_of_voting hst)).mpr ⟨fun p => ?_, fun p r hr c hc => ?_⟩
    · rw [elapse_context, if_pos hst, Option.isSome_map]
      exact hsome p
    · rw [elapse_context, if_pos hst] at hc
      obtain ⟨d, hd, rfl⟩ := Option.map_eq_some_iff.mp hc
      obtain ⟨hdfits, -, hdsettled⟩ := hfits p r hr d hd
      obtain ⟨hrun, hkeep⟩ := fits_runDown n hdfits
      exact ⟨hrun, fun h => absurd h (not_listen_of_voting hst), fun h => hkeep (hdsettled h)⟩

/-- In FAULTED the contexts stand as they were (R62, R171). -/
theorem voteInv_faulted {s t : State} (hs : VoteInv s) (hst : s.ctrl.station.clocked = true)
    (hcontexts : t.contexts = s.contexts) (hpoints : t.ctrl.points = s.ctrl.points) (htst : t.ctrl.station = .faulted) :
    VoteInv t := by
  obtain ⟨hsome, hfits⟩ := (voteInv_clocked hst).mp hs
  rw [voteInv_clocked (by rw [htst]; rfl), hcontexts, hpoints, htst]
  exact ⟨hsome, fun p r hr c hc => ⟨(hfits p r hr c hc).1, by simp, by simp [StationState.voting]⟩⟩

/-- RUN entry leaves the contexts as they are. -/
theorem enterRun_contexts (s : State) : (enterRun s).contexts = s.contexts := by
  have hcapture (u : State) (g : GroupNo) : (captureAtRunEntry u g).contexts = u.contexts := by
    unfold captureAtRunEntry
    split <;> simp
  simp only [enterRun, runEntryOutputs, setFlagIf_contexts]
  exact foldl_keeps (P := fun u => u.contexts = s.contexts) (fun u g hu => (hcapture u g).trans hu) _ rfl

theorem act_keeps_voteInv (c : Instr) (s t : State) (hs : VoteInv s) (h : Act c s t) : VoteInv t := by
  have hsetup (hst : s.ctrl.station = .setup) : s.ctrl.station.clocked = false := by rw [hst]; rfl
  have hempty (p : PointNo) : (ContextTable.empty)[p] = none := emptyContexts_getElem p
  cases h with
  | pins | choices | press | flag | readFlags | port | ack | startup | settings | profile | channel | group | scan | sample
  | line | complete | abort | beatAgain | hear => exact hs
  | elapse n => exact voteInv_elapse hs
  | reset => exact (voteInv_unclocked rfl).mpr hempty
  | leaveReset hc hst => exact voteInv_still hs rfl (by rw [hst]; rfl) rfl
  | table u hc hst => exact voteInv_still hs rfl (hsetup hst) (hsetup hst)
  | start hst => exact voteInv_still hs rfl (hsetup hst) rfl
  | reject r hc hst => exact voteInv_still hs rfl (by rw [hst]; rfl) rfl
  | listen b => exact voteInv_enterListen b s
  | restart => exact (voteInv_unclocked rfl).mpr hempty
  | clear m => exact voteInv_takeClearMask hs
  | insert i hi => rw [insertItem_eq]; exact hs
  | ownWrite | update => exact voteInv_applyUpdate hs
  | send => rw [startFrame_eq]; exact hs
  | completeJoin => rw [joinCompleted_eq]; exact hs
  | fault cause l hcause ho =>
    rw [enterFaulted_online (s := s.setLine l) ho]
    exact voteInv_faulted hs (clocked_of_online ho) rfl rfl rfl
  | join hst => exact voteInv_enterJoin hs hst
  | run hst =>
    have hctrl := (enterRun_frame s).ctrl
    obtain ⟨hsome, hfits⟩ := (voteInv_clocked (by rw [hst]; rfl)).mp hs
    rw [voteInv_clocked (by rw [hctrl]; rfl), enterRun_contexts, hctrl]
    exact ⟨hsome, fun p r hr c hc => ⟨(hfits p r hr c hc).1, by simp, fun _ => (hfits p r hr c hc).2.2 (by rw [hst]; rfl)⟩⟩
  | expiry p why hst hwhy =>
    exact voteInv_evaluateAsCounted hs hst (by rcases hwhy with rfl | rfl <;> simp)

/-- Settles O58, act by act. -/
theorem stepsKeepPointStatesTrueToCounts : Obligations.StepsKeepPointStatesTrueToCounts := fun _ _ hs h =>
  step_keeps (fun _ _ hs => hs) act_keeps_voteInv hs h

end Sys2Proof.Votes
end

section
/-! The trip output unit: what one evaluation makes of groups and first-out records, RUN entry, and the invariant that ties outputs
to points (obligation O60). -/

namespace Sys2Proof.Groups

open Sys2Proof Sys2Proof.Machine Sys2Proof.Inversion Sys2Proof.Votes

/-! ### Asserting sets -/

theorem insertPoint_pairwise {p : PointNo} {l : List PointNo} (h : l.Pairwise (· < ·)) : (insertPoint p l).Pairwise (· < ·) := by
  induction l with
  | nil => exact List.pairwise_singleton _ p
  | cons q l ih =>
    obtain ⟨hq, hl⟩ := List.pairwise_cons.mp h
    unfold insertPoint
    split
    next hlt =>
      refine List.pairwise_cons.mpr ⟨fun x hx => ?_, h⟩
      rcases List.mem_cons.mp hx with rfl | hx
      · exact hlt
      · exact hlt.trans (hq x hx)
    next hnlt =>
      split
      next => exact h
      next hne =>
        refine List.pairwise_cons.mpr ⟨fun x hx => ?_, ih hl⟩
        rcases (mem_insertPoint p x l).mp hx with rfl | hx
        · exact lt_of_le_of_ne (not_lt.mp hnlt) (Ne.symm hne)
        · exact hq x hx

theorem mem_assertingAfter (p q : PointNo) (after : PointState) (l : List PointNo) :
    q ∈ assertingAfter p after l ↔ if q = p then after.asserting = true else q ∈ l := by
  unfold assertingAfter
  by_cases hq : q = p
  · subst hq
    cases after.asserting <;> simp [mem_insertPoint]
  · cases after.asserting <;> simp [mem_insertPoint, hq]

/-- A report on a set that holds the points with a property leaves the set of those that have it after the report (R67). -/
theorem assertingAfter_filter (p : PointNo) (after : PointState) (P : PointNo → Bool) :
    assertingAfter p after ((List.finRange 24).filter P) =
      (List.finRange 24).filter fun q => if q = p then after.asserting else P q := by
  have hascending (Q : PointNo → Bool) : ((List.finRange 24).filter Q).Pairwise (· < ·) :=
    (List.pairwise_lt_finRange 24).filter _
  have hafter : (assertingAfter p after ((List.finRange 24).filter P)).Pairwise (· < ·) := by
    unfold assertingAfter
    split
    · exact insertPoint_pairwise (hascending P)
    · exact (hascending P).filter _
  refine hafter.eq_of_mem_iff (hascending _) fun q => ?_
  rw [mem_assertingAfter, List.mem_filter, List.mem_filter]
  split <;> simp

/-! ### One evaluation -/

/-- A group record after a report in a station state (R67, R69). -/
def reported (st : StationState) (p : PointNo) (after : PointState) (r : Group) : Group :=
  { r with
    asserting := assertingAfter p after r.asserting
    output := if st = .run then outputAfter r.asserting (assertingAfter p after r.asserting) r.output else r.output }

theorem takeReport_groups (p : PointNo) (g : GroupNo) (after : PointState) (s : State) :
    (takeReport p g after s).trip.groups = setAt s.trip.groups g (reported s.ctrl.station p after s.trip.groups[g]) := by
  unfold takeReport reported setGroupRecord
  dsimp only
  split <;> simp

/-- The groups after one evaluation: a point that changes its state is reported to its own group (R54). -/
theorem settleEvaluation_groups (p : PointNo) (r : PointRecord) (d : PointContext) (why : Cause) (s : State) :
    (settleEvaluation p r d why s).trip.groups =
      if (moved r d why).state = d.state then s.trip.groups
      else setAt s.trip.groups r.group (reported s.ctrl.station p (moved r d why).state s.trip.groups[r.group]) := by
  unfold settleEvaluation moved
  dsimp only
  rw [setFlagIf_trip]
  split <;> split <;> simp [takeReport_groups]

/-- A first-out record after a trip event of its group in RUN (R78). -/
def counted (s : State) (p : PointNo) (r : PointRecord) (l : List Standing) : Option FirstOut → FirstOut
  | none => { point := p, tick := s.ctrl.tick, snapshot := snapshotOf r l, subsequent := 0, cause := .tripEvent }
  | some f => { f with subsequent := min (f.subsequent + 1) Config.subsequentLimit }

theorem takeTripEvent_firstOut {p : PointNo} {r : PointRecord} {l : List Standing} {s : State} (h : s.ctrl.station = .run) :
    (takeTripEvent p r l s).trip.firstOut =
      setAt s.trip.firstOut r.group (some (counted s p r l s.trip.firstOut[r.group])) := by
  cases hf : s.trip.firstOut[r.group] with
  | none =>
    rw [takeTripEvent_empty h hf]
    simp [captureFirstOut, setFirstOut, counted]
  | some f =>
    rw [takeTripEvent_captured h hf]
    simp [setFirstOut, counted]

/-- The first-out records after one evaluation: a trip event in RUN is counted (R55, R78, R79). -/
theorem settleEvaluation_firstOut (p : PointNo) (r : PointRecord) (d : PointContext) (why : Cause) (s : State) :
    (settleEvaluation p r d why s).trip.firstOut =
      if isTripEvent d.state (moved r d why).state = true ∧ s.ctrl.station = .run then
        setAt s.trip.firstOut r.group (some (counted s p r d.standings s.trip.firstOut[r.group]))
      else s.trip.firstOut := by
  unfold settleEvaluation moved
  dsimp only
  rw [setFlagIf_trip]
  generalize hu : (if (transition r d why).1 = d.state then s.setContexts (setAt s.contexts p
      (some { d with state := (transition r d why).1, timer := (transition r d why).2 }))
    else takeReport p r.group (transition r d why).1 (s.setContexts (setAt s.contexts p
      (some { d with state := (transition r d why).1, timer := (transition r d why).2 })))) = u
  have hframe : VoteFrame (s.setContexts (setAt s.contexts p
      (some { d with state := (transition r d why).1, timer := (transition r d why).2 }))) u := by
    rw [← hu]
    split
    · exact .refl _
    · exact takeReport_frame ..
  have hfirst : u.trip.firstOut = s.trip.firstOut := by
    rw [← hu]
    split <;> simp
  have hctrl : u.ctrl = s.ctrl := hframe.ctrl
  by_cases htrip : isTripEvent d.state (transition r d why).1 = true
  · rw [if_pos htrip]
    by_cases hrun : s.ctrl.station = .run
    · rw [if_pos ⟨htrip, hrun⟩, takeTripEvent_firstOut (by rw [hctrl, hrun]), hfirst]
      simp only [counted, hctrl]
    · rw [if_neg fun h => hrun h.2, takeTripEvent_outsideRun _ _ _ _ (by rw [hctrl]; exact hrun), hfirst]
  · rw [if_neg htrip, if_neg fun h => htrip h.1, hfirst]

/-! ### The invariant of the groups -/

/-- What the station state says of a group's output (R68, R69, R71). -/
def OutputFits (st : StationState) (r : Group) : Prop :=
  match st with
  | .reset | .setup | .validating => r.output = .highImpedance
  | .listen | .join => r.output = r.startState.output
  | .run => r.output = if r.asserting = [] then .released else .asserted
  | .faulted => r.output ≠ .highImpedance ∧ (r.failAction = .trip → r.output = .asserted)

theorem groupInv_iff (s : State) : GroupInv s ↔ (s.ctrl.station.clocked = false → ∀ p : PointNo, s.contexts[p] = none) ∧
    ∀ g : GroupNo, s.trip.groups[g].asserting = (List.finRange 24).filter (assertsGroup s g) ∧
      OutputFits s.ctrl.station s.trip.groups[g] := by
  unfold GroupInv OutputFits
  cases s.ctrl.station <;> rfl

theorem assertsGroup_noContext {s : State} {p : PointNo} (g : GroupNo) (h : s.contexts[p] = none) :
    assertsGroup s g p = false := by
  unfold assertsGroup
  split
  next hc => cases h.symm.trans hc
  next => rfl

theorem filter_none {P : PointNo → Bool} (h : ∀ p, P p = false) : (List.finRange 24).filter P = [] := by simp [h]

/-- Outside LISTEN, JOIN, RUN and FAULTED no context stands, no set holds a point and every pin is high-impedance. -/
theorem groupInv_unclocked {s : State} (h : s.ctrl.station.clocked = false) : GroupInv s ↔
    (∀ p : PointNo, s.contexts[p] = none) ∧
      ∀ g : GroupNo, s.trip.groups[g].asserting = [] ∧ s.trip.groups[g].output = .highImpedance := by
  have hfits (r : Group) : OutputFits s.ctrl.station r ↔ r.output = .highImpedance := by
    cases hst : s.ctrl.station <;> rw [hst] at h <;> first | rfl | cases h
  have hset (hnone : ∀ p : PointNo, s.contexts[p] = none) (g : GroupNo) : (List.finRange 24).filter (assertsGroup s g) = [] :=
    filter_none fun p => assertsGroup_noContext g (hnone p)
  rw [groupInv_iff]
  constructor
  · rintro ⟨hnone, hgroups⟩
    refine ⟨hnone h, fun g => ?_⟩
    obtain ⟨hasserting, hout⟩ := hgroups g
    exact ⟨hasserting.trans (hset (hnone h) g), (hfits _).mp hout⟩
  · rintro ⟨hnone, hgroups⟩
    refine ⟨fun _ => hnone, fun g => ?_⟩
    obtain ⟨hasserting, hout⟩ := hgroups g
    exact ⟨hasserting.trans (hset hnone g).symm, (hfits _).mpr hout⟩

theorem groupInv_clocked {s : State} (h : s.ctrl.station.clocked = true) : GroupInv s ↔
    ∀ g : GroupNo, s.trip.groups[g].asserting = (List.finRange 24).filter (assertsGroup s g) ∧
      OutputFits s.ctrl.station s.trip.groups[g] := by
  rw [groupInv_iff, h]
  simp

theorem groupInv_congr {s t : State} (hs : GroupInv s) (hcontexts : t.contexts = s.contexts)
    (hpoints : t.ctrl.points = s.ctrl.points) (hstation : t.ctrl.station = s.ctrl.station)
    (hgroups : t.trip.groups = s.trip.groups) : GroupInv t := by
  have hasserts : assertsGroup t = assertsGroup s := by
    funext g p
    simp only [assertsGroup, hcontexts, hpoints]
  rw [GroupInv, hcontexts, hstation, hgroups, hasserts]
  exact hs

/-- Where no context stands the configuration does not matter. -/
theorem groupInv_still {s t : State} (hs : GroupInv s) (hcontexts : t.contexts = s.contexts)
    (hgroups : t.trip.groups = s.trip.groups) (hsc : s.ctrl.station.clocked = false) (htc : t.ctrl.station.clocked = false) :
    GroupInv t := by
  rw [groupInv_unclocked htc, hcontexts, hgroups]
  exact (groupInv_unclocked hsc).mp hs

/-- Whether a point asserts a group after an evaluation: the point evaluated by its new state, every other as before. -/
theorem assertsGroup_settled {s : State} {p : PointNo} {r : PointRecord} {d : PointContext} {why : Cause}
    (hr : s.ctrl.points[p] = some r) (g : GroupNo) (q : PointNo) :
    assertsGroup (settleEvaluation p r d why s) g q =
      if q = p then r.group == g && (moved r d why).state.asserting else assertsGroup s g q := by
  have hpoints : (settleEvaluation p r d why s).ctrl.points = s.ctrl.points := by rw [(settleEvaluation_frame ..).ctrl]
  by_cases hq : q = p
  · subst hq
    simp only [assertsGroup, hpoints, hr, settleEvaluation_context, if_true]
  · rw [if_neg hq]
    simp only [assertsGroup, hpoints, settleEvaluation_contexts, setAt_getElem_ne _ _ _ _ hq]

/-- The output of a group after a report is the one its new set calls for, where it was the one the old set called for. -/
theorem outputFits_reported {st : StationState} (hst : st.voting = true) {r : Group} (p : PointNo) (after : PointState)
    (h : OutputFits st r) : OutputFits st (reported st p after r) := by
  cases st with
  | join => exact h
  | run =>
    have h : r.output = if r.asserting = [] then .released else .asserted := h
    change outputAfter r.asserting (assertingAfter p after r.asserting) r.output =
      if assertingAfter p after r.asserting = [] then .released else .asserted
    rw [h]
    unfold outputAfter
    cases r.asserting <;> cases assertingAfter p after _ <;> simp
  | _ => cases hst

theorem groupInv_settled {s : State} {p : PointNo} {r : PointRecord} {c d : PointContext} {why : Cause} (hs : GroupInv s)
    (hst : s.ctrl.station.voting = true) (hr : s.ctrl.points[p] = some r) (hc : s.contexts[p] = some c)
    (hd : d.state = c.state) : GroupInv (settleEvaluation p r d why s) := by
  have hctrl : (settleEvaluation p r d why s).ctrl = s.ctrl := (settleEvaluation_frame ..).ctrl
  have hgroups := (groupInv_clocked (clocked_of_voting hst)).mp hs
  rw [groupInv_clocked (by rw [hctrl]; exact clocked_of_voting hst), hctrl]
  intro g
  obtain ⟨hasserting, hout⟩ := hgroups g
  have hown (q : PointNo) (hq : q = p) : assertsGroup s g q = (r.group == g && d.state.asserting) := by
    simp only [assertsGroup, hq, hr, hc, hd]
  have hset : (List.finRange 24).filter (assertsGroup (settleEvaluation p r d why s) g) =
      (List.finRange 24).filter fun q => if q = p then r.group == g && (moved r d why).state.asserting
        else assertsGroup s g q := List.filter_congr fun q _ => assertsGroup_settled hr g q
  have hsame (h : (r.group == g && (moved r d why).state.asserting) = (r.group == g && d.state.asserting)) :
      s.trip.groups[g].asserting = (List.finRange 24).filter (assertsGroup (settleEvaluation p r d why s) g) := by
    rw [hasserting, hset]
    refine List.filter_congr fun q _ => ?_
    split
    next hq => rw [h, hown q hq]
    next => rfl
  rw [settleEvaluation_groups]
  split
  next hstill => exact ⟨hsame (by rw [hstill]), hout⟩
  next hmoved =>
    rw [setAt_getElem]
    by_cases hg : g = r.group
    · subst hg
      rw [if_pos rfl]
      refine ⟨?_, outputFits_reported hst p _ hout⟩
      rw [hset]
      simp only [beq_self_eq_true, Bool.true_and, reported, hasserting]
      exact assertingAfter_filter ..
    · rw [if_neg hg]
      exact ⟨hsame (by simp [beq_eq_false_iff_ne.mpr (Ne.symm hg)]), hout⟩

theorem groupInv_evaluate {s : State} {p : PointNo} {why : Cause} {f : PointRecord → List Standing → List Standing}
    (hs : GroupInv s) (hst : s.ctrl.station.voting = true) : GroupInv (evaluate p why f s) := by
  unfold evaluate
  split
  next r c hr hc => exact groupInv_settled hs hst hr hc rfl
  next => exact hs

theorem groupInv_evaluateAsCounted {s : State} {p : PointNo} {why : Cause} (hs : GroupInv s)
    (hst : s.ctrl.station.voting = true) : GroupInv (evaluateAsCounted p why s) := by
  unfold evaluateAsCounted
  split
  next r c hr hc => exact groupInv_settled hs hst hr hc rfl
  next => exact hs

/-! ### The invariant of the first-out records -/

/-- Every record within its bound, and none outside RUN and FAULTED. -/
theorem firstOutInv_congr {s t : State} (hs : FirstOutInv s) (hstation : t.ctrl.station = s.ctrl.station)
    (hfirst : t.trip.firstOut = s.trip.firstOut) : FirstOutInv t := by
  rw [FirstOutInv, hstation, hfirst]
  exact hs

theorem firstOutInv_none {s : State} (h : ∀ g : GroupNo, s.trip.firstOut[g] = none) : FirstOutInv s :=
  ⟨fun _ => h, fun g f hf => by rw [h g] at hf; cases hf⟩

theorem counted_le (s : State) (p : PointNo) (r : PointRecord) (l : List Standing) (o : Option FirstOut) :
    (counted s p r l o).subsequent ≤ 255 := by
  cases o with
  | none => exact Nat.zero_le _
  | some f => exact Nat.min_le_right _ _

theorem firstOutInv_settled {s : State} (p : PointNo) (r : PointRecord) (d : PointContext) (why : Cause)
    (hs : FirstOutInv s) : FirstOutInv (settleEvaluation p r d why s) := by
  have hctrl : (settleEvaluation p r d why s).ctrl = s.ctrl := (settleEvaluation_frame ..).ctrl
  obtain ⟨hnone, hbound⟩ := hs
  rw [FirstOutInv, hctrl, settleEvaluation_firstOut]
  split
  next h =>
    refine ⟨fun hst => absurd h.2 hst.1, fun g f hf => ?_⟩
    rw [setAt_getElem] at hf
    split at hf
    · cases hf
      exact counted_le ..
    · exact hbound g f hf
  next => exact ⟨hnone, hbound⟩

theorem firstOutInv_evaluate {s : State} {p : PointNo} {why : Cause} {f : PointRecord → List Standing → List Standing}
    (hs : FirstOutInv s) : FirstOutInv (evaluate p why f s) := by
  unfold evaluate
  split
  · exact firstOutInv_settled _ _ _ _ hs
  · exact hs

theorem firstOutInv_evaluateAsCounted {s : State} {p : PointNo} {why : Cause} (hs : FirstOutInv s) :
    FirstOutInv (evaluateAsCounted p why s) := by
  unfold evaluateAsCounted
  split
  · exact firstOutInv_settled _ _ _ _ hs
  · exact hs

/-! ### Both together, over the rows of evaluations -/

/-- The invariant of the trip output unit. -/
def TripInv (s : State) : Prop := GroupInv s ∧ FirstOutInv s

/-- Evaluations one after another in JOIN and RUN. -/
theorem tripInv_foldl {α : Type} {f : State → α → State} (hframe : ∀ s a, (f s a).ctrl = s.ctrl)
    (hf : ∀ s a, TripInv s → s.ctrl.station.voting = true → TripInv (f s a)) (l : List α) {s : State} (hs : TripInv s)
    (hst : s.ctrl.station.voting = true) : TripInv (l.foldl f s) := by
  refine (foldl_keeps (P := fun u => TripInv u ∧ u.ctrl = s.ctrl) (fun u a ⟨hu, hctrl⟩ => ⟨?_, ?_⟩) l ⟨hs, rfl⟩).1
  · exact hf u a hu (by rw [hctrl]; exact hst)
  · exact (hframe u a).trans hctrl

theorem tripInv_takeClearMask {m : PointMask} {s : State} (hs : TripInv s) : TripInv (takeClearMask m s) := by
  unfold takeClearMask
  split
  next hst =>
    refine tripInv_foldl (f := clearPoint) (fun u p => (evaluateAsCounted_frame p _ u).ctrl) (fun u p hu hv => ?_) _ hs
      (by rw [hst]; rfl)
    exact ⟨groupInv_evaluateAsCounted hu.1 hv, firstOutInv_evaluateAsCounted hu.2⟩
  next => exact hs

theorem tripInv_applyUpdate {ws : List Write} {after : Option PeerTable} {s : State} (hs : TripInv s) :
    TripInv (applyUpdate ws after s) := by
  unfold applyUpdate
  dsimp only
  split
  next hst =>
    have hbase : TripInv (((s.setSources (s.sources.map (entryAfter s.ctrl.tick ws))).setPeers after).setChoices
        (s.choices + 1)) := hs
    exact tripInv_foldl (f := takeNotice) (fun u n => (takeNotice_frame u n).ctrl)
      (fun u n hu hv => ⟨groupInv_evaluate hu.1 hv, firstOutInv_evaluate hu.2⟩) _ hbase hst
  next => exact hs

theorem tripInv_evaluateAll {s : State} (hs : TripInv s) (hst : s.ctrl.station.voting = true) : TripInv (evaluateAll s) :=
  tripInv_foldl (f := joinEntryPoint) (fun u p => (evaluate_frame p _ _ u).ctrl)
    (fun _ _ hu hv => ⟨groupInv_evaluate hu.1 hv, firstOutInv_evaluate hu.2⟩) _ hs hst

/-! ### RUN entry (R70) -/

theorem captureFirstOut_groups (g : GroupNo) (f : FirstOut) (s : State) :
    (captureFirstOut g f s).trip.groups = s.trip.groups := by simp [captureFirstOut, setFirstOut]

theorem captureAtRunEntry_groups (s : State) (g : GroupNo) : (captureAtRunEntry s g).trip.groups = s.trip.groups := by
  unfold captureAtRunEntry
  split
  · exact captureFirstOut_groups ..
  · rfl

theorem captureAtRunEntry_contexts (s : State) (g : GroupNo) : (captureAtRunEntry s g).contexts = s.contexts := by
  unfold captureAtRunEntry
  split <;> simp

/-- One capture at RUN entry reaches the record of its own group alone. -/
theorem captureAtRunEntry_firstOut (s : State) (g h : GroupNo) : (captureAtRunEntry s g).trip.firstOut[h] =
    if h = g then (runEntryRecord s g).or s.trip.firstOut[g] else s.trip.firstOut[h] := by
  unfold captureAtRunEntry
  split
  next f hf => simp only [captureFirstOut, rewindCursor_trip, setFirstOut, State.setTrip_trip, setAt_getElem, hf, Option.some_or]
  next hf =>
    rw [hf, Option.none_or]
    split
    next he => rw [he]
    next => rfl

/-- What a capture reads: the tick, the table, the contexts and the asserting set of the group. -/
theorem runEntryRecord_congr {s t : State} (hctrl : t.ctrl = s.ctrl) (hcontexts : t.contexts = s.contexts) {g : GroupNo}
    (hasserting : t.trip.groups[g].asserting = s.trip.groups[g].asserting) : runEntryRecord t g = runEntryRecord s g := by
  simp only [runEntryRecord, hasserting, hctrl, hcontexts]

/-- The state whose groups take their RUN outputs and whose records are then captured. -/
def runBase (s : State) : State := (s.setCtrl { s.ctrl with station := .run, settle := none }).setTrip
  { s.trip with groups := mapTable Group.atRunEntry s.trip.groups }

theorem foldl_capture (s : State) (l : List GroupNo) :
    (l.foldl captureAtRunEntry s).contexts = s.contexts ∧ (l.foldl captureAtRunEntry s).trip.groups = s.trip.groups ∧
      (l.foldl captureAtRunEntry s).ctrl = s.ctrl ∧
      (l.Nodup → ∀ g : GroupNo, (l.foldl captureAtRunEntry s).trip.firstOut[g] =
        if g ∈ l then (runEntryRecord s g).or s.trip.firstOut[g] else s.trip.firstOut[g]) := by
  induction l generalizing s with
  | nil => exact ⟨rfl, rfl, rfl, fun _ g => by simp⟩
  | cons h l ih =>
    obtain ⟨hcontexts, hgroups, hctrl, hfirst⟩ := ih (captureAtRunEntry s h)
    have hc := captureAtRunEntry_contexts s h
    have hg := captureAtRunEntry_groups s h
    have hk := (captureAtRunEntry_frame s h).ctrl
    refine ⟨hcontexts.trans hc, hgroups.trans hg, hctrl.trans hk, fun hnodup g => ?_⟩
    obtain ⟨hnotin, hnodup⟩ := List.nodup_cons.mp hnodup
    rw [List.foldl_cons, hfirst hnodup, runEntryRecord_congr hk hc (by rw [hg]), captureAtRunEntry_firstOut]
    by_cases hgh : g = h
    · subst hgh
      simp [hnotin]
    · simp [hgh]

theorem enterRun_groups (s : State) (g : GroupNo) : (enterRun s).trip.groups[g] = s.trip.groups[g].atRunEntry := by
  have hgroups : (enterRun s).trip.groups = (runBase s).trip.groups := by
    simp only [enterRun, runEntryOutputs, setFlagIf_trip]
    exact (foldl_capture (runBase s) _).2.1
  rw [hgroups]
  exact mapTable_getElem Group.atRunEntry s.trip.groups g

/-- The first-out records after RUN entry: each group that asserts is captured (R70). -/
theorem enterRun_firstOut (s : State) (g : GroupNo) :
    (enterRun s).trip.firstOut[g] = (runEntryRecord s g).or s.trip.firstOut[g] := by
  have hfirst : (enterRun s).trip.firstOut = ((List.finRange 4).foldl captureAtRunEntry (runBase s)).trip.firstOut := by
    simp only [enterRun, runEntryOutputs, setFlagIf_trip]
    rfl
  have hrecord : runEntryRecord (runBase s) g = runEntryRecord s g := by
    have hgroup : (runBase s).trip.groups[g] = s.trip.groups[g].atRunEntry :=
      mapTable_getElem Group.atRunEntry s.trip.groups g
    have hasserting : (runBase s).trip.groups[g].asserting = s.trip.groups[g].asserting := by rw [hgroup]; rfl
    unfold runEntryRecord
    rw [hasserting]
    rfl
  rw [hfirst, (foldl_capture (runBase s) _).2.2.2 (List.nodup_finRange 4), if_pos (List.mem_finRange g), hrecord]
  rfl

theorem runEntryRecord_le {s : State} {g : GroupNo} {f : FirstOut} (h : runEntryRecord s g = some f) :
    f.subsequent ≤ s.trip.groups[g].asserting.length := by
  unfold runEntryRecord at h
  split at h
  next => cases h
  next p l hl =>
    split at h
    next => cases h; rw [hl]; exact Nat.le_succ _
    next => cases h

theorem tripInv_enterRun {s : State} (hs : TripInv s) (hst : s.ctrl.station = .join) : TripInv (enterRun s) := by
  obtain ⟨hgroup, -, hbound⟩ := hs
  have hctrl : (enterRun s).ctrl = { s.ctrl with station := .run, settle := none } := (enterRun_frame s).ctrl
  have hgroups := (groupInv_clocked (by rw [hst]; rfl)).mp hgroup
  have hasserts : assertsGroup (enterRun s) = assertsGroup s := by
    funext g p
    simp only [assertsGroup, enterRun_contexts, hctrl]
  constructor
  · rw [groupInv_clocked (by rw [hctrl]; rfl), hctrl, hasserts]
    intro g
    rw [enterRun_groups]
    refine ⟨(hgroups g).1, ?_⟩
    change (if s.trip.groups[g].asserting.isEmpty then Output.released else .asserted) =
      if s.trip.groups[g].asserting = [] then .released else .asserted
    simp only [List.isEmpty_iff]
  · refine ⟨fun h => absurd (by rw [hctrl]) h.1, fun g f hf => ?_⟩
    rw [enterRun_firstOut] at hf
    rcases Option.or_eq_some_iff.mp hf with hf | ⟨-, hf⟩
    · refine (runEntryRecord_le hf).trans ?_
      rw [(hgroups g).1]
      refine (List.length_filter_le _ _).trans ?_
      rw [List.length_finRange]
      omega
    · exact hbound g f hf

/-! ### The other entries -/

theorem outputFits_faulted {st : StationState} (hst : st.online = true) {r : Group} (h : OutputFits st r) :
    OutputFits .faulted r.atFaultedEntry := by
  have hne : r.output ≠ .highImpedance := by
    cases st with
    | listen | join =>
      have h : r.output = r.startState.output := h
      rw [h]
      cases r.startState <;> simp [StartState.output]
    | run =>
      have h : r.output = if r.asserting = [] then .released else .asserted := h
      rw [h]
      split <;> simp
    | _ => cases hst
  unfold Group.atFaultedEntry
  split
  next => exact ⟨by simp, fun _ => rfl⟩
  next hhold => exact ⟨hne, fun h => by rw [hhold] at h; cases h⟩

theorem tripInv_fault {s : State} {cause : FaultCause} {l : LineUnit} (hs : TripInv s) (ho : s.ctrl.station.online = true) :
    TripInv (enterFaulted cause (s.setLine l)) := by
  obtain ⟨hgroup, -, hbound⟩ := hs
  rw [enterFaulted_online (s := s.setLine l) ho]
  have hgroups := (groupInv_clocked (clocked_of_online ho)).mp hgroup
  refine ⟨(groupInv_clocked rfl).mpr fun g => ?_, fun h => absurd rfl h.2, hbound⟩
  change (mapTable Group.atFaultedEntry s.trip.groups)[g.val].asserting = (List.finRange 24).filter (assertsGroup s g) ∧
    OutputFits .faulted (mapTable Group.atFaultedEntry s.trip.groups)[g.val]
  rw [mapTable_getElem]
  refine ⟨Eq.trans ?_ (hgroups g).1, outputFits_faulted ho (hgroups g).2⟩
  change s.trip.groups[g].atFaultedEntry.asserting = _
  unfold Group.atFaultedEntry
  split <;> rfl

theorem tripInv_enterListen {s : State} (b : Bool) (hs : TripInv s) (hst : s.ctrl.station = .validating) :
    TripInv (enterListen b s) := by
  obtain ⟨-, hnone, -⟩ := hs
  refine ⟨(groupInv_clocked rfl).mpr fun g => ?_, firstOutInv_none (hnone (by simp [hst]))⟩
  rw [StartChecks.enterListen_group]
  refine ⟨(filter_none fun p => ?_).symm, rfl⟩
  unfold assertsGroup
  split
  next r c hr hc =>
    rw [enterListen_context] at hc
    obtain ⟨r', -, rfl⟩ := Option.map_eq_some_iff.mp hc
    exact Bool.and_false _
  next => rfl

theorem tripInv_enterJoin {s : State} (hs : TripInv s) (hst : s.ctrl.station = .listen) : TripInv (enterJoin s) := by
  obtain ⟨hgroup, hnone, -⟩ := hs
  have hgroups := (groupInv_clocked (by rw [hst]; rfl)).mp hgroup
  rw [hst] at hgroups
  rw [enterJoin_eq]
  exact tripInv_evaluateAll ⟨(groupInv_clocked rfl).mpr hgroups, firstOutInv_none (hnone (by simp [hst]))⟩ rfl

theorem assertsGroup_elapse (n : Nat) (s : State) : assertsGroup (elapse n s) = assertsGroup s := by
  funext g p
  cases hr : s.ctrl.points[p] <;> cases hc : s.contexts[p] <;> cases hv : s.ctrl.station.voting <;>
    simp only [assertsGroup, elapse_context, elapse_points, hr, hc, hv, if_true, Bool.false_eq_true, if_false, Option.map]
  rfl

theorem tripInv_elapse {n : Nat} {s : State} (hs : TripInv s) : TripInv (elapse n s) := by
  obtain ⟨hgroup, hfirst⟩ := hs
  refine ⟨?_, hfirst⟩
  rw [groupInv_iff] at hgroup ⊢
  obtain ⟨hnone, hgroups⟩ := hgroup
  rw [assertsGroup_elapse]
  refine ⟨fun h p => ?_, hgroups⟩
  rw [elapse_context, hnone h p]
  split <;> rfl

/-- Entries to RESET and SETUP leave no context, no record and empty groups. -/
theorem tripInv_cleared {t : State} (hst : t.ctrl.station.clocked = false) (hcontexts : t.contexts = .empty)
    (hgroups : ∀ g : GroupNo, t.trip.groups[g].asserting = [] ∧ t.trip.groups[g].output = .highImpedance)
    (hfirst : t.trip.firstOut = Vector.replicate 4 none) : TripInv t := by
  refine ⟨(groupInv_unclocked hst).mpr ⟨fun p => ?_, hgroups⟩, firstOutInv_none fun g => ?_⟩
  · rw [hcontexts]
    exact emptyContexts_getElem p
  · simp [hfirst]

/-- Where no context stands and no record is captured, a state that keeps contexts, groups and records keeps the invariant. -/
theorem tripInv_still {s t : State} (hs : TripInv s) (hcontexts : t.contexts = s.contexts) (htrip : t.trip = s.trip)
    (hsc : s.ctrl.station.clocked = false) (htc : t.ctrl.station.clocked = false) : TripInv t := by
  refine ⟨groupInv_still hs.1 hcontexts (by rw [htrip]) hsc htc, firstOutInv_none ?_⟩
  rw [htrip]
  refine hs.2.1 ⟨?_, ?_⟩ <;> intro h <;> rw [h] at hsc <;> cases hsc

theorem act_keeps_tripInv (c : Instr) (s t : State) (hs : TripInv s) (h : Act c s t) : TripInv t := by
  have hsetup (hst : s.ctrl.station = .setup) : s.ctrl.station.clocked = false := by rw [hst]; rfl
  cases h with
  | pins | choices | press | flag | readFlags | port | startup | settings | profile | channel | scan | sample
  | line | complete | abort | beatAgain | hear => exact hs
  | ack g h =>
    obtain ⟨hgroup, hnone, hbound⟩ := hs
    refine ⟨hgroup, fun hst i => ?_, fun i f hf => ?_⟩
    · simp only [setFirstOut, State.setTrip_trip, setAt_getElem]
      split
      · rfl
      · exact hnone hst i
    · simp only [setFirstOut, State.setTrip_trip, setAt_getElem] at hf
      split at hf
      · cases hf
      · exact hbound i f hf
  | elapse n => exact tripInv_elapse hs
  | reset => exact tripInv_cleared rfl rfl (fun g => by simp [State.inReset, TripUnit.powerOn, Group.powerOn]) rfl
  | leaveReset hc hst => exact tripInv_still hs rfl rfl (by rw [hst]; rfl) rfl
  | group g f u hc hst =>
    obtain ⟨hgroup, hfirst⟩ := hs
    obtain ⟨hnone, hgroups⟩ := (groupInv_unclocked (hsetup hst)).mp hgroup
    refine ⟨(groupInv_unclocked (by exact hsetup hst)).mpr ⟨hnone, fun i => ?_⟩, hfirst⟩
    simp only [setGroupRecord, State.setTrip_trip, setAt_getElem]
    split
    · exact hgroups g
    · exact hgroups i
  | table u hc hst => exact tripInv_still hs rfl rfl (hsetup hst) (hsetup hst)
  | start hst => exact tripInv_still hs rfl rfl (hsetup hst) rfl
  | reject r hc hst => exact tripInv_still hs rfl rfl (by rw [hst]; rfl) rfl
  | listen b hc hst => exact tripInv_enterListen b hs hst
  | restart =>
    refine tripInv_cleared rfl rfl (fun g => ?_) rfl
    change (mapTable Group.atSetupEntry s.trip.groups)[g.val].asserting = [] ∧
      (mapTable Group.atSetupEntry s.trip.groups)[g.val].output = .highImpedance
    rw [mapTable_getElem]
    exact ⟨rfl, rfl⟩
  | clear m => exact tripInv_takeClearMask hs
  | insert i hi => rw [insertItem_eq]; exact hs
  | ownWrite | update => exact tripInv_applyUpdate hs
  | send => rw [startFrame_eq]; exact hs
  | completeJoin => rw [joinCompleted_eq]; exact hs
  | fault cause l hcause ho => exact tripInv_fault hs ho
  | join hst => exact tripInv_enterJoin hs hst
  | run hst => exact tripInv_enterRun hs hst
  | expiry p why hst hwhy => exact ⟨groupInv_evaluateAsCounted hs.1 hst, firstOutInv_evaluateAsCounted hs.2⟩

/-- Settles O60, act by act. -/
theorem stepsKeepOutputsTrueToPoints : Obligations.StepsKeepOutputsTrueToPoints := fun _ _ hs h =>
  step_keeps (P := TripInv) (fun _ _ hs => hs) act_keeps_tripInv hs h

end Sys2Proof.Groups
end

section
/-! The line controller's bounds and the life cycle's fields (obligation O55). -/

namespace Sys2Proof.Lines

open Sys2Proof Sys2Proof.Machine Sys2Proof.Inversion Sys2Proof.Votes

/-! ### The items restored after an abort (R137) -/

/-- A CHANGE item for a channel that has none pending. -/
def unpendingChange (q : List SendItem) : SendItem → Bool
  | .change c _ => !q.any (·.isChangeOf c)
  | .join | .beat | .probe _ | .clear _ => false

theorem foldl_restore_changes (q : List SendItem) {items : List SendItem} (h : ∀ i ∈ items, i.isChange = true)
    (kept : List SendItem) :
    items.foldl restoreItem (kept, q) = (kept ++ items.filter (unpendingChange q), q) := by
  induction items generalizing kept with
  | nil => simp
  | cons i rest ih =>
    obtain ⟨hi, hrest⟩ := List.forall_mem_cons.mp h
    cases i with
    | change c v =>
      rw [List.foldl_cons, List.filter_cons]
      cases hq : q.any (·.isChangeOf c) <;> simp [restoreItem, unpendingChange, hq, ih hrest]
    | _ => cases hi

theorem restoreItems_changes (q : List SendItem) {items : List SendItem} (h : ∀ i ∈ items, i.isChange = true) :
    restoreItems items q = items.filter (unpendingChange q) ++ q := by
  rw [restoreItems, foldl_restore_changes q h, List.nil_append]

theorem foldl_restore_probes (q : List SendItem) {items : List SendItem} (h : ∀ i ∈ items, i.isProbe = true)
    (kept : List SendItem) :
    items.foldl restoreItem (kept, q) =
      (kept ++ (items.filter fun i => !q.contains i).take (4 - (kept.countP (·.isProbe) + q.countP (·.isProbe))), q) := by
  induction items generalizing kept with
  | nil => simp
  | cons i rest ih =>
    obtain ⟨hi, hrest⟩ := List.forall_mem_cons.mp h
    cases i with
    | probe a =>
      rw [List.foldl_cons, List.filter_cons]
      cases hq : q.contains (.probe a) with
      | true => simpa [restoreItem, List.contains_iff_mem.mp hq] using ih hrest kept
      | false =>
        by_cases hroom : 4 ≤ kept.countP (·.isProbe) + q.countP (·.isProbe)
        · have hnone : 4 - (kept.countP (·.isProbe) + q.countP (·.isProbe)) = 0 := by omega
          have hskip : restoreItem (kept, q) (.probe a) = (kept, q) := by
            simp [restoreItem, Config.probeLimit, hroom]
          rw [hskip, ih hrest, hnone, List.take_zero, List.take_zero]
        · have hkeep : restoreItem (kept, q) (.probe a) = (kept ++ [.probe a], q) := by
            simp only [restoreItem, hq, Config.probeLimit, Bool.false_or]
            exact if_neg (mt of_decide_eq_true hroom)
          obtain ⟨n, hn⟩ : ∃ n, 4 - (kept.countP (·.isProbe) + q.countP (·.isProbe)) = n + 1 :=
            ⟨3 - (kept.countP (·.isProbe) + q.countP (·.isProbe)), by omega⟩
          have hless : 4 - ((kept ++ [SendItem.probe a]).countP (·.isProbe) + q.countP (·.isProbe)) = n := by
            rw [List.countP_append, List.countP_singleton, if_pos hi]
            omega
          rw [hkeep, ih hrest, hn, hless]
          simp
    | _ => cases hi

theorem restoreItems_probes (q : List SendItem) {items : List SendItem} (h : ∀ i ∈ items, i.isProbe = true) :
    restoreItems items q = (items.filter fun i => !q.contains i).take (4 - q.countP (·.isProbe)) ++ q := by
  rw [restoreItems, foldl_restore_probes q h]
  simp

theorem restoreItems_join (q : List SendItem) : restoreItems [.join] q = .join :: q := rfl

theorem restoreItems_beat (q : List SendItem) : restoreItems [.beat] q = if .beat ∈ q then q else .beat :: q := by
  by_cases h : SendItem.beat ∈ q <;> simp [restoreItems, restoreItem, h]

theorem restoreItems_clear (m : PointMask) (q : List SendItem) :
    restoreItems [.clear m] q = if q.any (·.isClear) then q.map (·.orMask m) else .clear m :: q := by
  cases h : q.any (·.isClear) <;> simp [restoreItems, restoreItem, h]

/-! ### The bounds of the queue (R131) -/

variable {own : Address} {ch : Classifier} {q r : List SendItem}

theorem queueBounded_nil : queueBounded own ch [] := by simp [queueBounded]

theorem queueBounded_of_sublist (h : queueBounded own ch q) (hr : r.Sublist q) : queueBounded own ch r := by
  obtain ⟨hjoin, hbeat, hclear, hzero, hchange, hprobes, hprobe⟩ := h
  exact ⟨(hr.count_le _).trans hjoin, (hr.count_le _).trans hbeat, hr.countP_le.trans hclear, fun h => hzero (hr.subset h),
    fun c => hr.countP_le.trans (hchange c), hr.countP_le.trans hprobes, fun a => (hr.count_le _).trans (hprobe a)⟩

/-- Items that ask for the same thing, whatever verdict or mask they carry. -/
def alike (i j : SendItem) : Prop :=
  (j == .join) = (i == .join) ∧ (j == .beat) = (i == .beat) ∧ j.isClear = i.isClear ∧
    (∀ c, j.isChangeOf c = i.isChangeOf c) ∧ j.isProbe = i.isProbe ∧ ∀ a, (j == .probe a) = (i == .probe a)

theorem withVerdict_alike (c : Channel) (v : LineVerdict) (i : SendItem) : alike i (i.withVerdict c v) := by
  unfold SendItem.withVerdict
  split
  next h =>
    cases i with
    | change d w =>
      obtain rfl : d = c := by simpa [SendItem.isChangeOf] using h
      exact ⟨rfl, rfl, rfl, fun _ => rfl, rfl, fun _ => rfl⟩
    | _ => cases h
  next => exact ⟨rfl, rfl, rfl, fun _ => rfl, rfl, fun _ => rfl⟩

theorem orMask_alike (m : PointMask) (i : SendItem) : alike i (i.orMask m) := by
  cases i <;> exact ⟨rfl, rfl, rfl, fun _ => rfl, rfl, fun _ => rfl⟩

theorem countP_map_of_eq {p : SendItem → Bool} {f : SendItem → SendItem} (h : ∀ i, p (f i) = p i) (q : List SendItem) :
    (q.map f).countP p = q.countP p := by
  rw [List.countP_map]
  exact List.countP_congr fun i _ => by rw [Function.comp_apply, h]

/-- The bounds read what the items ask for, and that no CLEAR is empty. -/
theorem queueBounded_map {f : SendItem → SendItem} (h : queueBounded own ch q) (hf : ∀ i, alike i (f i))
    (hzero : ∀ i, f i = .clear 0 → i = .clear 0) : queueBounded own ch (q.map f) := by
  obtain ⟨hjoin, hbeat, hclear, hnozero, hchange, hprobes, hprobe⟩ := h
  refine ⟨?_, ?_, ?_, ?_, fun c => ?_, ?_, fun a => ?_⟩
  · rwa [List.count, countP_map_of_eq fun i => (hf i).1]
  · rwa [List.count, countP_map_of_eq fun i => (hf i).2.1]
  · rwa [countP_map_of_eq fun i => (hf i).2.2.1]
  · intro hmem
    obtain ⟨i, hi, hfi⟩ := List.mem_map.mp hmem
    exact hnozero (hzero i hfi ▸ hi)
  · rw [countP_map_of_eq fun i => (hf i).2.2.2.1 c]
    exact hchange c
  · rwa [countP_map_of_eq fun i => (hf i).2.2.2.2.1]
  · rw [List.count, countP_map_of_eq fun i => (hf i).2.2.2.2.2 a]
    exact hprobe a

theorem queueBounded_withVerdict (h : queueBounded own ch q) (c : Channel) (v : LineVerdict) :
    queueBounded own ch (q.map (·.withVerdict c v)) := by
  refine queueBounded_map h (withVerdict_alike c v) fun i hi => ?_
  unfold SendItem.withVerdict at hi
  split at hi
  next => cases hi
  next => exact hi

theorem queueBounded_orMask (h : queueBounded own ch q) (m : PointMask) : queueBounded own ch (q.map (·.orMask m)) := by
  refine queueBounded_map h (orMask_alike m) fun i hi => ?_
  cases i with
  | clear n =>
    have hor : n ||| m = 0 := by simpa [SendItem.orMask] using hi
    have hn : n = 0 := by
      exact (BitVec.or_eq_zero_iff.mp hor).1
    rw [hn]
  | _ => cases hi

theorem queueBounded_perm (h : queueBounded own ch q) (hr : r.Perm q) : queueBounded own ch r := by
  obtain ⟨hjoin, hbeat, hclear, hzero, hchange, hprobes, hprobe⟩ := h
  exact ⟨(hr.count_eq _).trans_le hjoin, (hr.count_eq _).trans_le hbeat, (hr.countP_eq _).trans_le hclear,
    fun h => hzero (hr.mem_iff.mp h), fun c => (hr.countP_eq _).trans_le (hchange c), (hr.countP_eq _).trans_le hprobes,
    fun a => (hr.count_eq _).trans_le (hprobe a)⟩

/-- A JOIN, BEAT or CLEAR item may come first where none is there. -/
theorem queueBounded_cons_join (h : queueBounded own ch q) (hq : q.count .join = 0) : queueBounded own ch (.join :: q) := by
  obtain ⟨-, hbeat, hclear, hzero, hchange, hprobes, hprobe⟩ := h
  refine ⟨by simp [hq], by simpa using hbeat, by simpa [SendItem.isClear] using hclear, by simpa using hzero,
    fun c => by simpa [SendItem.isChangeOf] using hchange c, by simpa [SendItem.isProbe] using hprobes,
    fun a => by simpa using hprobe a⟩

theorem queueBounded_cons_beat (h : queueBounded own ch q) (hq : .beat ∉ q) : queueBounded own ch (.beat :: q) := by
  obtain ⟨hjoin, -, hclear, hzero, hchange, hprobes, hprobe⟩ := h
  refine ⟨by simpa using hjoin, by simp [List.count_eq_zero.mpr hq], by simpa [SendItem.isClear] using hclear,
    by simpa using hzero, fun c => by simpa [SendItem.isChangeOf] using hchange c, by simpa [SendItem.isProbe] using hprobes,
    fun a => by simpa using hprobe a⟩

theorem queueBounded_cons_clear {m : PointMask} (h : queueBounded own ch q) (hm : m ≠ 0)
    (hq : q.any (·.isClear) = false) : queueBounded own ch (.clear m :: q) := by
  obtain ⟨hjoin, hbeat, -, hzero, hchange, hprobes, hprobe⟩ := h
  have hnone : q.countP (·.isClear) = 0 := List.countP_eq_zero.mpr fun i hi => by simp [List.any_eq_false.mp hq i hi]
  refine ⟨by simpa using hjoin, by simpa using hbeat, by rw [List.countP_cons, hnone]; exact Nat.le_refl 1,
    fun h => (List.mem_cons.mp h).elim (fun h => hm (by cases h; rfl)) hzero,
    fun c => by simpa [SendItem.isChangeOf] using hchange c,
    by simpa [SendItem.isProbe] using hprobes, fun a => by simpa using hprobe a⟩

/-- CHANGE items may come first where each has its channel to itself. -/
theorem queueBounded_changes_append (h : queueBounded own ch q) (hr : queueBounded own ch r)
    (hchanges : ∀ i ∈ r, unpendingChange q i = true) : queueBounded own ch (r ++ q) := by
  obtain ⟨hjoin, hbeat, hclear, hzero, hchange, hprobes, hprobe⟩ := h
  obtain ⟨-, -, -, -, hown, -, -⟩ := hr
  have hnone {p : SendItem → Bool} (hp : ∀ c v, p (.change c v) = false) : r.countP p = 0 := by
    refine List.countP_eq_zero.mpr fun i hi => ?_
    cases i with
    | change c v => simp [hp]
    | _ => cases hchanges _ hi
  refine ⟨?_, ?_, ?_, ?_, fun c => ?_, ?_, fun a => ?_⟩
  · rwa [List.count, List.countP_append, hnone fun _ _ => rfl, Nat.zero_add]
  · rwa [List.count, List.countP_append, hnone fun _ _ => rfl, Nat.zero_add]
  · rwa [List.countP_append, hnone fun _ _ => rfl, Nat.zero_add]
  · exact fun hmem => (List.mem_append.mp hmem).elim (fun hmem => by cases hchanges _ hmem) hzero
  · rw [List.countP_append]
    by_cases hpending : q.any (·.isChangeOf c) = true
    · have hrc : r.countP (·.isChangeOf c) = 0 := by
        refine List.countP_eq_zero.mpr fun i hi => ?_
        have hi := hchanges i hi
        cases i with
        | change d v =>
          intro hd
          obtain rfl : d = c := by simpa [SendItem.isChangeOf] using hd
          simp [unpendingChange, hpending] at hi
        | _ => cases hi
      rw [hrc, Nat.zero_add]
      exact hchange c
    · have hqc : q.countP (·.isChangeOf c) = 0 :=
        List.countP_eq_zero.mpr fun i hi hic => hpending (List.any_eq_true.mpr ⟨i, hi, hic⟩)
      rw [hqc, Nat.add_zero]
      exact hown c
  · rwa [List.countP_append, hnone fun _ _ => rfl, Nat.zero_add]
  · rw [List.count, List.countP_append, hnone fun _ _ => rfl, Nat.zero_add]
    exact hprobe a

/-- PROBE items may come first where none is pending already and there is room. -/
theorem queueBounded_probes_append (h : queueBounded own ch q) (hr : queueBounded own ch r)
    (hprobesOnly : ∀ i ∈ r, i.isProbe = true ∧ i ∉ q) (hroom : r.length + q.countP (·.isProbe) ≤ 4) :
    queueBounded own ch (r ++ q) := by
  obtain ⟨hjoin, hbeat, hclear, hzero, hchange, hprobes, hprobe⟩ := h
  obtain ⟨-, -, -, -, -, -, hown⟩ := hr
  have hnone {p : SendItem → Bool} (hp : ∀ a, p (.probe a) = false) : r.countP p = 0 := by
    refine List.countP_eq_zero.mpr fun i hi => ?_
    cases i with
    | probe a => simp [hp]
    | _ => cases (hprobesOnly _ hi).1
  refine ⟨?_, ?_, ?_, ?_, fun c => ?_, ?_, fun a => ?_⟩
  · rwa [List.count, List.countP_append, hnone fun _ => rfl, Nat.zero_add]
  · rwa [List.count, List.countP_append, hnone fun _ => rfl, Nat.zero_add]
  · rwa [List.countP_append, hnone fun _ => rfl, Nat.zero_add]
  · exact fun hmem => (List.mem_append.mp hmem).elim (fun hmem => by cases (hprobesOnly _ hmem).1) hzero
  · rw [List.countP_append, hnone fun _ => rfl, Nat.zero_add]
    exact hchange c
  · rw [List.countP_append]
    exact (Nat.add_le_add_right List.countP_le_length _).trans hroom
  · rw [List.count_append]
    by_cases hpending : SendItem.probe a ∈ q
    · rw [List.count_eq_zero.mpr fun hmem => (hprobesOnly _ hmem).2 hpending, Nat.zero_add]
      exact hprobe a
    · rw [List.count_eq_zero.mpr hpending, Nat.add_zero]
      exact hown a

/-! ### Insertions (R132) -/

theorem queueInsert_beat (q : List SendItem) : queueInsert .beat q = if .beat ∈ q then q else q ++ [.beat] := by
  simp [queueInsert]

theorem queueInsert_change (c : Channel) (v : LineVerdict) (q : List SendItem) : queueInsert (.change c v) q =
    if q.any (·.isChangeOf c) then q.map (·.withVerdict c v) else q ++ [.change c v] := rfl

theorem queueInsert_probe (a : Address) (q : List SendItem) : queueInsert (.probe a) q =
    if .probe a ∈ q ∨ 4 ≤ q.countP (·.isProbe) then q else q ++ [.probe a] := by
  simp only [queueInsert, Bool.or_eq_true, List.contains_iff_mem, decide_eq_true_eq]
  rfl

theorem queueInsert_clear (m : PointMask) (q : List SendItem) : queueInsert (.clear m) q =
    if q.any (·.isClear) then q.map (·.orMask m) else q ++ [.clear m] := rfl

theorem count_join_map {f : SendItem → SendItem} (hf : ∀ i, alike i (f i)) (q : List SendItem) :
    (q.map f).count .join = q.count .join := countP_map_of_eq (p := (· == .join)) (fun i => (hf i).1) q

/-- Only JOIN entry inserts a JOIN item. -/
theorem count_join_queueInsert {i : SendItem} (hi : i ≠ .join) (q : List SendItem) :
    (queueInsert i q).count .join = q.count .join := by
  cases i with
  | join => exact absurd rfl hi
  | beat => rw [queueInsert_beat]; split <;> simp
  | change c v => rw [queueInsert_change]; split <;> simp [count_join_map (withVerdict_alike c v)]
  | probe a => rw [queueInsert_probe]; split <;> simp
  | clear m => rw [queueInsert_clear]; split <;> simp [count_join_map (orMask_alike m)]

theorem queueBounded_insert {s : State} {i : SendItem} (hi : insertable s i)
    (h : queueBounded s.ctrl.settings.address s.chan q) : queueBounded s.ctrl.settings.address s.chan (queueInsert i q) := by
  have hlast {j : SendItem} (hj : queueBounded s.ctrl.settings.address s.chan (j :: q)) :
      queueBounded s.ctrl.settings.address s.chan (q ++ [j]) := queueBounded_perm hj (List.perm_append_singleton j q)
  cases i with
  | join => cases hi
  | beat =>
    rw [queueInsert_beat]
    split
    next => exact h
    next hq => exact hlast (queueBounded_cons_beat h hq)
  | change c v =>
    cases hq : q.any (·.isChangeOf c) with
    | true =>
      rw [queueInsert_change, if_pos hq]
      exact queueBounded_withVerdict h c v
    | false =>
      rw [queueInsert_change, if_neg (by simp [hq])]
      refine hlast (queueBounded_changes_append (r := [.change c v]) h ?_ (by simp [unpendingChange, hq]))
      refine ⟨by simp, by simp, by simp [SendItem.isClear], by simp, fun d => ?_, by simp [SendItem.isProbe], by simp⟩
      rw [List.countP_singleton]
      split
      next hd =>
        obtain rfl : c = d := by simpa [SendItem.isChangeOf] using hd
        rw [if_pos (show s.chan.channels[c].contributing = true from hi)]
      next => exact Nat.zero_le _
  | probe a =>
    rw [queueInsert_probe]
    split
    next => exact h
    next hq =>
      obtain ⟨hnot, hroom⟩ := not_or.mp hq
      refine hlast (queueBounded_probes_append (r := [.probe a]) h ?_ ?_ ?_)
      · refine ⟨by simp, by simp, by simp [SendItem.isClear], by simp, by simp [SendItem.isChangeOf], by simp [SendItem.isProbe],
          fun b => ?_⟩
        by_cases hb : b = a
        · subst hb
          simp [if_neg (show b ≠ s.ctrl.settings.address from hi)]
        · simp [Ne.symm hb]
      · simpa [SendItem.isProbe] using hnot
      · rw [List.length_singleton]
        omega
  | clear m =>
    cases hq : q.any (·.isClear) with
    | true =>
      rw [queueInsert_clear, if_pos hq]
      exact queueBounded_orMask h m
    | false =>
      rw [queueInsert_clear, if_neg (by simp [hq])]
      exact hlast (queueBounded_cons_clear h hi hq)

/-- Restoring keeps the bounds: what is restored is part of the frame, and what is pending already is not doubled (R137). -/
theorem queueBounded_restore {f : InFlight} (hf : f.itemsFit) (hitems : queueBounded own ch f.items) (hq : queueBounded own ch q)
    (hjoin : q.count .join + f.items.count .join ≤ 1) : queueBounded own ch (restoreItems f.items q) := by
  unfold InFlight.itemsFit at hf
  split at hf
  next =>
    rw [hf, restoreItems_join]
    refine queueBounded_cons_join hq ?_
    rw [hf] at hjoin
    simpa using hjoin
  next =>
    rw [hf, restoreItems_beat]
    split
    · exact hq
    · exact queueBounded_cons_beat hq ‹_›
  next =>
    rw [restoreItems_changes q hf.2]
    exact queueBounded_changes_append hq (queueBounded_of_sublist hitems List.filter_sublist) fun i hi => (List.mem_filter.mp hi).2
  next =>
    rw [restoreItems_probes q hf.2]
    refine queueBounded_probes_append hq
      (queueBounded_of_sublist hitems ((List.take_sublist _ _).trans List.filter_sublist)) (fun i hi => ?_) ?_
    · obtain ⟨hmem, hnot⟩ := List.mem_filter.mp (List.mem_of_mem_take hi)
      exact ⟨hf.2 i hmem, by simpa using hnot⟩
    · have := hq.2.2.2.2.2.1
      rw [List.length_take]
      omega
  next =>
    obtain ⟨hlen, hclear⟩ := hf
    obtain ⟨i, hi⟩ := List.length_eq_one_iff.mp hlen
    rw [hi] at hclear hitems ⊢
    cases i with
    | clear m =>
      rw [restoreItems_clear]
      split
      · exact queueBounded_orMask hq m
      next hnone =>
        refine queueBounded_cons_clear hq (fun hm => hitems.2.2.2.1 (by simp [hm])) (by simpa using hnone)
    | _ => cases hclear _ (List.mem_singleton.mpr rfl)

/-! ### The frame built from the queue (R134) -/

theorem buildFrame_parts {s : State} {b : BuiltFrame} (h : buildFrame s = some b) :
    b.items.Sublist s.line.queue ∧ b.rest.Sublist s.line.queue ∧
      b.rest.count .join + b.items.count .join = s.line.queue.count .join := by
  have hsplit (p : SendItem → Bool) (hp : p .join = false) (l : List SendItem) :
      (l.filter fun i => !p i).count .join + (l.filter p).count .join = l.count .join := by
    have hnone : (l.filter p).count .join = 0 :=
      List.count_eq_zero.mpr fun hmem => by simp [hp] at hmem
    rw [hnone, Nat.add_zero, List.count_filter (by simp [hp])]
  unfold buildFrame at h
  split at h
  next => cases h
  next rest hq =>
    cases h
    rw [hq]
    exact ⟨by simp, by simp, by simp⟩
  next rest hq =>
    cases h
    rw [hq]
    refine ⟨by simp, List.filter_sublist.cons _, ?_⟩
    rw [List.count_filter (by rfl)]
    simp
  next c v rest hq =>
    cases h
    rw [hq]
    refine ⟨List.filter_sublist.cons_cons _, List.filter_sublist.cons _, ?_⟩
    simpa using hsplit (·.isChange) rfl rest
  next a rest hq =>
    cases h
    rw [hq]
    refine ⟨List.filter_sublist.cons_cons _, List.filter_sublist.cons _, ?_⟩
    simpa using hsplit (·.isProbe) rfl rest
  next m rest hq =>
    cases h
    rw [hq]
    exact ⟨by simp, by simp, by simp⟩

theorem buildFrame_fits {s : State} {b : BuiltFrame} (n : Byte) (h : buildFrame s = some b) :
    (InFlight.mk b.kind n b.body b.items).itemsFit := by
  unfold buildFrame at h
  split at h
  next => cases h
  next => cases h; rfl
  next => cases h; rfl
  next => cases h; exact ⟨by simp, by simp [SendItem.isChange]⟩
  next => cases h; exact ⟨by simp, by simp [SendItem.isProbe]⟩
  next => cases h; exact ⟨rfl, by simp [SendItem.isClear]⟩

/-! ### The line controller's invariant, by station state -/

/-- The line controller while the station votes. -/
structure LineRuns (s : State) : Prop where
  queue : queueBounded s.ctrl.settings.address s.chan s.line.queue
  flying : queueBounded s.ctrl.settings.address s.chan s.line.itemsInFlight
  frame : ∀ f ∈ s.line.inFlight, f.itemsFit ∧ s.line.slots = .stopped ∧ s.line.receiver = .collecting
  joins : s.line.queue.count .join + s.line.itemsInFlight.count .join =
    if s.ctrl.station = .join ∧ s.ctrl.settle = none then 1 else 0
  settles : s.ctrl.settle.isSome = true → s.ctrl.station = .join
  sender : s.line.lastSender.isSome = true
  aborts : s.line.aborts < 8
  slots : s.line.slots ≠ .notKept
  receiver : s.line.receiver ≠ .idle

theorem lineInv_voting {s : State} (h : s.ctrl.station.voting = true) : LineInv s ↔ LineRuns s := by
  have hlisten : s.ctrl.station ≠ .listen := not_listen_of_voting h
  have hfaulted : s.ctrl.station ≠ .faulted := fun hst => by simp [hst, StationState.voting] at h
  constructor
  · rintro ⟨-, hq, hf, hframe, hjoins, hsettles, -, -, hsender, -, haborts, hslots, hreceiver⟩
    exact ⟨hq, hf, hframe, hjoins, hsettles, hsender h, haborts hfaulted, hslots.mp (online_of_voting h),
      hreceiver.mp (online_of_voting h)⟩
  · rintro ⟨hq, hf, hframe, hjoins, hsettles, hsender, haborts, hslots, hreceiver⟩
    exact ⟨by simp [h], hq, hf, hframe, hjoins, hsettles, by simp [clocked_of_voting h], fun h => absurd h hlisten,
      fun _ => hsender, Nat.le_of_lt haborts, fun _ => haborts, by simp [online_of_voting h, hslots],
      by simp [online_of_voting h, hreceiver]⟩

theorem lineInv_quiet {s : State} (hv : s.ctrl.station.voting = false) : LineInv s ↔
    s.line.queue = [] ∧ s.line.inFlight = none ∧ s.ctrl.settle = none ∧ (s.ctrl.station.clocked = false → s.line = .idle) ∧
      (s.ctrl.station = .listen → s.line.sequence = 0 ∧ s.line.aborts = 0) ∧
      s.line.aborts ≤ 8 ∧ (s.ctrl.station ≠ .faulted → s.line.aborts < 8) ∧
      (s.ctrl.station.online = true ↔ s.line.slots ≠ .notKept) ∧ (s.ctrl.station.online = true ↔ s.line.receiver ≠ .idle) := by
  have hjoin : s.ctrl.station ≠ .join := fun hst => by simp [hst, StationState.voting] at hv
  constructor
  · rintro ⟨hempty, -, -, -, -, hsettles, hidle, hlisten, -, haborts, hlow, hslots, hreceiver⟩
    refine ⟨(hempty hv).1, (hempty hv).2, ?_, hidle, hlisten, haborts, hlow, hslots, hreceiver⟩
    cases hs : s.ctrl.settle with
    | none => rfl
    | some n => exact absurd (hsettles (by rw [hs]; rfl)) hjoin
  · rintro ⟨hqueue, hflight, hsettle, hidle, hlisten, haborts, hlow, hslots, hreceiver⟩
    have hitems : s.line.itemsInFlight = [] := by rw [LineUnit.itemsInFlight, hflight]
    refine ⟨fun _ => ⟨hqueue, hflight⟩, by rw [hqueue]; exact queueBounded_nil, by rw [hitems]; exact queueBounded_nil,
      by simp [hflight], ?_, by simp [hsettle], hidle, hlisten, by simp [hv], haborts, hlow, hslots, hreceiver⟩
    rw [hqueue, hitems, if_neg fun h => hjoin h.1]
    rfl

theorem not_voting_of_unclocked {st : StationState} (h : st.clocked = false) : st.voting = false := by
  cases st <;> first | rfl | cases h

theorem not_online_of_unclocked {st : StationState} (h : st.clocked = false) : st.online = false := by
  cases st <;> first | rfl | cases h

theorem lineInv_unclocked {s : State} (h : s.ctrl.station.clocked = false) :
    LineInv s ↔ s.line = .idle ∧ s.ctrl.settle = none := by
  rw [lineInv_quiet (not_voting_of_unclocked h), not_online_of_unclocked h]
  constructor
  · rintro ⟨-, -, hsettle, hidle, -⟩
    exact ⟨hidle h, hsettle⟩
  · rintro ⟨hidle, hsettle⟩
    simp [hidle, hsettle, LineUnit.idle]

theorem contributing_setAt (v : Vector ChannelRecord 8) (c d : Channel) {r : ChannelRecord}
    (hr : r.contributing = v[c].contributing) : (setAt v c r)[d].contributing = v[d].contributing := by
  rw [setAt_getElem]
  split
  next h => rw [h, hr]
  next => rfl

/-- The line controller's invariant reads the line controller, the station state, whether the settle period runs, the own
address and which channels contribute. -/
theorem lineInv_congr {s t : State} (hs : LineInv s) (hline : t.line = s.line) (hst : t.ctrl.station = s.ctrl.station)
    (hsettle : t.ctrl.settle.isSome = s.ctrl.settle.isSome) (hset : t.ctrl.settings = s.ctrl.settings)
    (hchan : ∀ c : Channel, t.chan.channels[c].contributing = s.chan.channels[c].contributing) : LineInv t := by
  have hnone : t.ctrl.settle = none ↔ s.ctrl.settle = none := by
    rw [← Option.not_isSome_iff_eq_none, ← Option.not_isSome_iff_eq_none, hsettle]
  have hbounded (q : List SendItem) :
      queueBounded t.ctrl.settings.address t.chan q ↔ queueBounded s.ctrl.settings.address s.chan q := by
    simp only [queueBounded, hset, hchan]
  rw [LineInv, hline, hst, hsettle, hbounded, hbounded]
  simp only [hnone]
  exact hs

theorem lineInv_of_voteFrame {s t : State} (hs : LineInv s) (h : VoteFrame s t) : LineInv t :=
  lineInv_congr hs h.line (by rw [h.ctrl]) (by rw [h.ctrl]) (by rw [h.ctrl]) (by rw [h.chan]; exact fun _ => rfl)

theorem lineInv_of_updateFrame {s t : State} (hs : LineInv s) (h : UpdateFrame s t) : LineInv t :=
  lineInv_congr hs h.line (by rw [h.ctrl]) (by rw [h.ctrl]) (by rw [h.ctrl]) (by rw [h.chan]; exact fun _ => rfl)

/-! ### What the acts of the line controller keep -/

theorem lineRuns_insert {s : State} {i : SendItem} (hs : LineRuns s) (hi : insertable s i) :
    LineRuns (s.setLine { s.line with queue := queueInsert i s.line.queue }) := by
  have hi' : i ≠ .join := fun h => by rw [h] at hi; cases hi
  exact { hs with
    queue := queueBounded_insert hi hs.queue
    joins := (congrArg (· + _) (count_join_queueInsert hi' _)).trans hs.joins }

theorem lineRuns_startFrame {s : State} (hs : LineRuns s) (hf : s.line.inFlight = none) : LineRuns (startFrame s) := by
  unfold startFrame
  split
  next => exact hs
  next b hb =>
    obtain ⟨hitems, hrest, hcount⟩ := buildFrame_parts hb
    have hflying : s.line.itemsInFlight = [] := by rw [LineUnit.itemsInFlight, hf]
    have hjoins := hs.joins
    rw [hflying, List.count_nil, Nat.add_zero, ← hcount] at hjoins
    refine ⟨queueBounded_of_sublist hs.queue hrest, queueBounded_of_sublist hs.queue hitems, fun f h => ?_, hjoins, hs.settles,
      hs.sender, hs.aborts, by simp, by simp⟩
    cases h
    exact ⟨buildFrame_fits s.line.sequence hb, rfl, rfl⟩

theorem itemsInFlight_some {l : LineUnit} {f : InFlight} (h : l.inFlight = some f) : l.itemsInFlight = f.items := by
  rw [LineUnit.itemsInFlight, h]

theorem lineRuns_abort {s : State} {f : InFlight} (hs : LineRuns s) (hf : s.line.inFlight = some f) (ha : s.line.aborts + 1 < 8) :
    LineRuns (s.setLine (s.line.afterAbort f)) := by
  have hfits : f.itemsFit := (hs.frame f hf).1
  have hjoins := hs.joins
  have hflying := hs.flying
  rw [itemsInFlight_some hf] at hjoins hflying
  have hrestored : (restoreItems f.items s.line.queue).count .join = s.line.queue.count .join + f.items.count .join := by
    unfold InFlight.itemsFit at hfits
    split at hfits
    next => rw [hfits, restoreItems_join]; simp
    next => rw [hfits, restoreItems_beat]; split <;> simp
    next =>
      have hnone : f.items.count .join = 0 := List.count_eq_zero.mpr fun h => by cases hfits.2 _ h
      rw [restoreItems_changes _ hfits.2, List.count_append, hnone,
        List.count_eq_zero.mpr fun h => by cases hfits.2 _ (List.mem_filter.mp h).1]
      omega
    next =>
      have hnone : f.items.count .join = 0 := List.count_eq_zero.mpr fun h => by cases hfits.2 _ h
      rw [restoreItems_probes _ hfits.2, List.count_append, hnone,
        List.count_eq_zero.mpr fun h => by cases hfits.2 _ (List.mem_filter.mp (List.mem_of_mem_take h)).1]
      omega
    next =>
      obtain ⟨i, hi⟩ := List.length_eq_one_iff.mp hfits.1
      rw [hi] at hfits ⊢
      cases i with
      | clear m =>
        rw [restoreItems_clear]
        split
        · rw [count_join_map (orMask_alike m)]; simp
        · simp
      | _ => cases hfits.2 _ (List.mem_singleton.mpr rfl)
  have hone : s.line.queue.count .join + f.items.count .join ≤ 1 := by rw [hjoins]; split <;> omega
  refine ⟨queueBounded_restore hfits hflying hs.queue hone, queueBounded_nil, by simp [LineUnit.afterAbort], ?_, hs.settles,
    hs.sender, ha, by simp [LineUnit.afterAbort], by simp [LineUnit.afterAbort]⟩
  exact hrestored.trans hjoins

theorem join_inFlight {f : InFlight} (h : f.itemsFit) : f.items.count .join = if f.kind = .join then 1 else 0 := by
  unfold InFlight.itemsFit at h
  split at h
  next hk => rw [h, hk]; rfl
  next hk => rw [h, hk]; rfl
  next hk => rw [hk]; exact List.count_eq_zero.mpr fun hmem => by cases h.2 _ hmem
  next hk => rw [hk]; exact List.count_eq_zero.mpr fun hmem => by cases h.2 _ hmem
  next hk => rw [hk]; exact List.count_eq_zero.mpr fun hmem => by cases h.2 _ hmem

theorem lineRuns_complete {s : State} {f : InFlight} (hs : LineRuns s) (hf : s.line.inFlight = some f) (hk : f.kind ≠ .join) :
    LineRuns (s.setLine (s.line.afterComplete s.ctrl.settings.address)) := by
  have hjoins := hs.joins
  rw [itemsInFlight_some hf, join_inFlight (hs.frame f hf).1, if_neg hk] at hjoins
  exact ⟨hs.queue, queueBounded_nil, by simp [LineUnit.afterComplete], hjoins, hs.settles, rfl, by simp [LineUnit.afterComplete],
    by simp [LineUnit.afterComplete], by simp [LineUnit.afterComplete]⟩

/-- A JOIN in flight means that the settle period has not begun and none waits (R168). -/
theorem lineRuns_completeJoin {s : State} {f : InFlight} (hv : s.ctrl.station.voting = true) (hs : LineRuns s)
    (hf : s.line.inFlight = some f) (hk : f.kind = .join) :
    s.ctrl.station = .join ∧ LineRuns (joinCompleted (s.setLine (s.line.afterComplete s.ctrl.settings.address))) := by
  have hjoins := hs.joins
  rw [itemsInFlight_some hf, join_inFlight (hs.frame f hf).1, if_pos hk] at hjoins
  have hwaiting : s.ctrl.station = .join ∧ s.ctrl.settle = none := by
    by_contra h
    rw [if_neg h] at hjoins
    omega
  rw [if_pos hwaiting, Nat.add_eq_right] at hjoins
  refine ⟨hwaiting.1, ?_⟩
  have hbeat : (queueInsert .beat s.line.queue).count .join = 0 := (count_join_queueInsert (by simp) _).trans hjoins
  rw [joinCompleted_eq]
  refine ⟨?_, queueBounded_nil, by simp [LineUnit.afterComplete], ?_, fun _ => hwaiting.1, rfl, by simp [LineUnit.afterComplete],
    by simp [LineUnit.afterComplete], by simp [LineUnit.afterComplete]⟩
  · change queueBounded _ _ (if s.ctrl.station.voting = true then queueInsert .beat s.line.queue else s.line.queue)
    rw [if_pos hv]
    exact queueBounded_insert (s := s) trivial hs.queue
  · change (if s.ctrl.station.voting = true then queueInsert .beat s.line.queue else s.line.queue).count .join + 0 = _
    rw [if_pos hv, hbeat, if_neg fun h => by cases h.2]

theorem lineRuns_line {s : State} {l : Option Address} {k : SlotCount} {r : Receiver} (hs : LineRuns s)
    (hl : s.line.lastSender.isSome = true → l.isSome = true) (hk : s.line.slots ≠ .notKept → k ≠ .notKept)
    (hr : s.line.receiver ≠ .idle → r ≠ .idle)
    (hf : s.line.inFlight = none ∨ (s.line.slots = .stopped → s.line.receiver = .collecting → k = .stopped ∧ r = .collecting)) :
    LineRuns (s.setLine { s.line with lastSender := l, slots := k, receiver := r }) := by
  refine { hs with frame := fun f hflight => ?_, sender := hl hs.sender, slots := hk hs.slots, receiver := hr hs.receiver }
  obtain ⟨hfits, hslots, hreceiver⟩ := hs.frame f hflight
  rcases hf with hnone | hf
  · cases hnone.symm.trans (Option.mem_def.mp hflight)
  · exact ⟨hfits, hf hslots hreceiver⟩

theorem lineInv_line {s : State} {l : Option Address} {k : SlotCount} {r : Receiver} (ho : s.ctrl.station.online = true)
    (hs : LineInv s)
    (hl : s.line.lastSender.isSome = true → l.isSome = true) (hk : s.line.slots ≠ .notKept → k ≠ .notKept)
    (hr : s.line.receiver ≠ .idle → r ≠ .idle)
    (hf : s.line.inFlight = none ∨ (s.line.slots = .stopped → s.line.receiver = .collecting → k = .stopped ∧ r = .collecting)) :
    LineInv (s.setLine { s.line with lastSender := l, slots := k, receiver := r }) := by
  cases hv : s.ctrl.station.voting with
  | true => exact (lineInv_voting (by exact hv)).mpr (lineRuns_line ((lineInv_voting hv).mp hs) hl hk hr hf)
  | false =>
    obtain ⟨hqueue, hflight, hsettle, -, hlisten, haborts, hlow, hslots, hreceiver⟩ := (lineInv_quiet hv).mp hs
    refine (lineInv_quiet (by exact hv)).mpr ⟨hqueue, hflight, hsettle, fun h => ?_, hlisten, haborts, hlow,
      ⟨fun h => hk (hslots.mp h), fun _ => ho⟩, ⟨fun h => hr (hreceiver.mp h), fun _ => ho⟩⟩
    exact absurd (clocked_of_online ho) (by rw [show s.ctrl.station.clocked = false from h]; exact Bool.false_ne_true)

theorem lineInv_fault {s : State} {cause : FaultCause} {l : LineUnit} (hs : LineInv s) (ho : s.ctrl.station.online = true)
    (ha : l.aborts ≤ s.line.aborts + 1) : LineInv (enterFaulted cause (s.setLine l)) := by
  have hlow : s.line.aborts < 8 := by
    obtain ⟨-, -, -, -, -, -, -, -, -, -, hlow, -⟩ := hs
    exact hlow fun hst => by simp [hst, StationState.online] at ho
  rw [enterFaulted_online (s := s.setLine l) ho]
  refine (lineInv_quiet rfl).mpr ?_
  refine ⟨rfl, rfl, rfl, nofun, nofun, ?_, fun h => absurd rfl h, ⟨nofun, fun h => absurd rfl h⟩, nofun, fun h => absurd rfl h⟩
  exact ha.trans hlow

/-- JOIN entry: the queue was empty, and the JOIN item is the one of the station state (R167). -/
theorem lineInv_joinBase {s : State} (hs : LineInv s) (hst : s.ctrl.station = .listen) : LineInv (joinBase s) := by
  obtain ⟨hqueue, hflight, hsettle, -, -, -, hlow, hslots, hreceiver⟩ := (lineInv_quiet (by rw [hst]; rfl)).mp hs
  have hitems : s.line.itemsInFlight = [] := by rw [LineUnit.itemsInFlight, hflight]
  rw [hst] at hslots hreceiver
  refine (lineInv_voting rfl).mpr ⟨?_, ?_, ?_, ?_, fun _ => rfl, ?_, hlow (by simp [hst]), hslots.mp rfl, hreceiver.mp rfl⟩
  · change queueBounded _ _ (s.line.queue ++ [.join])
    rw [hqueue]
    exact queueBounded_cons_join queueBounded_nil rfl
  · change queueBounded _ _ s.line.itemsInFlight
    rw [hitems]
    exact queueBounded_nil
  · change ∀ f ∈ s.line.inFlight, _
    simp [hflight]
  · change (s.line.queue ++ [SendItem.join]).count .join + s.line.itemsInFlight.count .join =
      if StationState.join = .join ∧ s.ctrl.settle = none then 1 else 0
    simp [hqueue, hitems, hsettle]
  · change (assumeSender s.ctrl.settings.address s.line.lastSender).isSome = true
    cases s.line.lastSender <;> rfl

theorem lineInv_run {s : State} (hs : LineInv s) (hst : s.ctrl.station = .join) (hsettle : s.ctrl.settle.isSome = true) :
    LineInv (s.setCtrl { s.ctrl with station := .run, settle := none }) := by
  have hs := (lineInv_voting (by rw [hst]; rfl)).mp hs
  refine (lineInv_voting rfl).mpr { hs with joins := ?_, settles := fun h => by cases h }
  refine hs.joins.trans ?_
  rw [if_neg fun h => by simp [h.2] at hsettle, if_neg fun h => by cases h.1]

theorem act_keeps_lineInv {c : Instr} {s t : State} (hs : LineInv s) (h : Act c s t) : LineInv t := by
  have hidle {st : StationState} (hst : s.ctrl.station = st) (h : st.clocked = false) : s.line = .idle ∧ s.ctrl.settle = none :=
    (lineInv_unclocked (by rw [hst]; exact h)).mp hs
  cases h with
  | pins | choices | press | flag | readFlags | port | ack | startup | profile | group | hear | beatAgain | scan => exact hs
  | elapse n =>
    exact lineInv_congr hs rfl rfl (by cases h : s.ctrl.settle <;> simp [elapse, Controller.runDown, runDown, h]) rfl fun _ => rfl
  | reset => exact (lineInv_unclocked rfl).mpr ⟨rfl, rfl⟩
  | leaveReset hc hst | start hst | reject r hc hst => exact (lineInv_unclocked rfl).mpr (hidle hst rfl)
  | settings x hc hst =>
    exact (lineInv_unclocked (by exact hst ▸ rfl)).mpr (hidle hst rfl)
  | table x hc hst =>
    exact (lineInv_unclocked (by exact hst ▸ rfl)).mpr (hidle hst rfl)
  | channel ch e p => exact lineInv_congr hs rfl rfl rfl rfl fun c => contributing_setAt _ _ _ rfl
  | sample ch rest code hst =>
    exact lineInv_congr hs rfl rfl rfl rfl fun c => contributing_setAt _ _ _ (sampledRecord_contributing ..)
  | listen b hc hst hr =>
    obtain ⟨hidle, hsettle⟩ := hidle hst rfl
    have hline : (enterListen b s).line = LineUnit.idle.atListenEntry b := congrArg (LineUnit.atListenEntry b) hidle
    refine (lineInv_quiet rfl).mpr ?_
    rw [hline]
    refine ⟨rfl, rfl, hsettle, nofun, fun _ => ⟨rfl, rfl⟩, Nat.zero_le _, fun _ => Nat.zero_lt_succ _, ⟨fun _ => ?_, fun _ => rfl⟩,
      fun _ => ?_, fun _ => rfl⟩ <;> simp [LineUnit.atListenEntry]
  | restart => exact (lineInv_unclocked rfl).mpr ⟨rfl, rfl⟩
  | clear m => exact lineInv_of_voteFrame hs (takeClearMask_frame m s)
  | insert i hi =>
    rw [insertItem_eq]
    split
    next hv => exact (lineInv_voting (by exact hv)).mpr (lineRuns_insert ((lineInv_voting hv).mp hs) hi)
    next => exact hs
  | ownWrite | update => exact lineInv_of_updateFrame hs (applyUpdate_frame _ _ s).1
  | line l k r ho hl hk hr hf => exact lineInv_line ho hs hl hk hr hf
  | send hc hv hf =>
    exact (lineInv_voting (by rw [startFrame_eq]; exact hv)).mpr (lineRuns_startFrame ((lineInv_voting hv).mp hs) hf)
  | complete f hv hf hk => exact (lineInv_voting (by exact hv)).mpr (lineRuns_complete ((lineInv_voting hv).mp hs) hf hk)
  | completeJoin f hv hf hk =>
    exact (lineInv_voting (by rw [joinCompleted_eq]; exact hv)).mpr (lineRuns_completeJoin hv ((lineInv_voting hv).mp hs) hf hk).2
  | abort f hv hf ha => exact (lineInv_voting (by exact hv)).mpr (lineRuns_abort ((lineInv_voting hv).mp hs) hf ha)
  | fault cause l hcause ho ha => exact lineInv_fault hs ho ha
  | join hst => exact lineInv_of_voteFrame (lineInv_joinBase hs hst) (enterJoin_frame s)
  | run hst hsettle => exact lineInv_of_voteFrame (lineInv_run hs hst hsettle) (enterRun_frame s)
  | expiry p why => exact lineInv_of_voteFrame hs (evaluateAsCounted_frame p why s)

/-! ### The station controller -/

/-- What the life cycle asks of the station controller and the scan timer. -/
def CtrlInv (k : Controller) (scanTimer : Option Nat) : Prop :=
  (k.startup.isSome = true → k.station = .reset) ∧ (k.cause ≠ .none ↔ k.station = .faulted) ∧
    (k.rejection ≠ .clear → k.station = .setup) ∧
    k.digest = (if k.station.clocked then some (digestOf k.settings.beat k.points) else none) ∧
    (k.station.clocked = false → k.tick = 0) ∧ (k.listen.isSome = true ↔ k.station = .listen) ∧
    (k.beatTimer.isSome = true ↔ k.station = .run ∨ (k.station = .join ∧ k.settle.isSome = true)) ∧
    (scanTimer.isSome = true ↔ k.station.clocked = true) ∧
    2 ≤ k.settings.beat ∧ k.settings.beat ≤ 255 ∧ 1 ≤ k.settings.scan ∧ k.settings.scan ≤ 255

theorem lifeInv_iff {s : State} : LifeInv s ↔ LineInv s ∧ CtrlInv s.ctrl s.chan.scanTimer := Iff.rfl

theorem isSome_runDown (n : Nat) (o : Option Nat) : (runDown n o).isSome = o.isSome := by simp [runDown]

theorem ctrlInv_runDown {n : Nat} {k : Controller} {o : Option Nat} (h : CtrlInv k o) : CtrlInv (k.runDown n) (runDown n o) := by
  obtain ⟨hstartup, hcause, hreject, hdigest, htick, hlisten, hbeat, hscan, hrange⟩ := h
  refine ⟨?_, hcause, hreject, hdigest, ?_, ?_, ?_, ?_, hrange⟩
  · simpa only [Controller.runDown, isSome_runDown] using hstartup
  · intro hk
    have hk : k.station.clocked = false := hk
    simpa [Controller.runDown, hk] using htick hk
  · simpa only [Controller.runDown, isSome_runDown] using hlisten
  · simpa only [Controller.runDown, isSome_runDown] using hbeat
  · simpa only [Controller.runDown, isSome_runDown] using hscan

/-- The station controller in RESET, SETUP and VALIDATING: no cause, digest, tick, period or timer. -/
theorem ctrlInv_unclocked {k : Controller} {o : Option Nat} (h : k.station.clocked = false) : CtrlInv k o ↔
    (k.startup.isSome = true → k.station = .reset) ∧ k.cause = .none ∧ (k.rejection ≠ .clear → k.station = .setup) ∧
      k.digest = none ∧ k.tick = 0 ∧ k.listen = none ∧ k.beatTimer = none ∧ o = none ∧
      2 ≤ k.settings.beat ∧ k.settings.beat ≤ 255 ∧ 1 ≤ k.settings.scan ∧ k.settings.scan ≤ 255 := by
  have hne {st : StationState} (hst : st.clocked = true) : k.station ≠ st := fun he => by rw [← he, h] at hst; cases hst
  simp [CtrlInv, h, hne (st := .faulted) rfl, hne (st := .listen) rfl, hne (st := .join) rfl, hne (st := .run) rfl]

theorem act_keeps_ctrlInv {c : Instr} {s t : State} (hline : LineInv s) (hs : CtrlInv s.ctrl s.chan.scanTimer) (h : Act c s t) :
    CtrlInv t.ctrl t.chan.scanTimer := by
  have hstill {st : StationState} (hst : s.ctrl.station = st) (h : st.clocked = false) :=
    (ctrlInv_unclocked (o := s.chan.scanTimer) (by rw [hst]; exact h)).mp hs
  have hs' := hs
  obtain ⟨hstartup, hcause, hreject, hdigest, htick, hlisten, hbeat, hscan, hrange⟩ := hs'
  cases h with
  | pins | choices | press | flag | readFlags | port | ack | profile | channel | group | sample | line | complete | abort
  | hear => exact hs
  | elapse n => exact ctrlInv_runDown hs
  | reset => exact (ctrlInv_unclocked rfl).mpr ⟨fun _ => rfl, rfl, nofun, rfl, rfl, rfl, rfl, rfl,
      by simp [State.inReset, Controller.powerOn, Settings.powerOn]⟩
  | startup n hst => exact ⟨fun _ => hst, hcause, hreject, hdigest, htick, hlisten, hbeat, hscan, hrange⟩
  | leaveReset hc hst =>
    obtain ⟨-, hcause, -, hrest⟩ := hstill hst rfl
    exact (ctrlInv_unclocked rfl).mpr ⟨nofun, hcause, fun _ => rfl, hrest⟩
  | settings x hc hst hx =>
    obtain ⟨hstartup, hcause, hreject, hdigest, htick, hlisten, hbeat, hscan, -⟩ := hstill hst rfl
    exact (ctrlInv_unclocked (by exact hst ▸ rfl)).mpr ⟨hstartup, hcause, hreject, hdigest, htick, hlisten, hbeat, hscan, hx⟩
  | table x hc hst => exact (ctrlInv_unclocked (by exact hst ▸ rfl)).mpr (hstill hst rfl)
  | start hst =>
    obtain ⟨-, hcause, -, hrest⟩ := hstill hst rfl
    refine (ctrlInv_unclocked rfl).mpr ⟨fun h => ?_, hcause, fun h => absurd rfl h, hrest⟩
    cases hst.symm.trans (hstartup h)
  | reject r hc hst =>
    obtain ⟨-, hcause, -, hdigest, htick, hlisten, hbeat, -, hrange⟩ := hstill hst rfl
    refine (ctrlInv_unclocked rfl).mpr ⟨fun h => ?_, hcause, fun _ => rfl, hdigest, htick, hlisten, hbeat, rfl, hrange⟩
    cases hst.symm.trans (hstartup h)
  | listen b hc hst hr =>
    obtain ⟨-, hcause, -, -, -, -, hbeat, -⟩ := hstill hst rfl
    refine ⟨fun h => ?_, ⟨fun h => absurd hcause h, nofun⟩, fun h => ?_, rfl, nofun, ⟨fun _ => rfl, fun _ => rfl⟩, ?_,
      ⟨fun _ => rfl, fun _ => rfl⟩, hrange⟩
    · cases hst.symm.trans (hstartup h)
    · cases hst.symm.trans (hreject h)
    · change s.ctrl.beatTimer.isSome = true ↔ StationState.listen = .run ∨ (StationState.listen = .join ∧ _)
      simp [hbeat]
  | restart => exact (ctrlInv_unclocked rfl).mpr ⟨nofun, rfl, fun h => absurd rfl h, rfl, rfl, rfl, rfl, rfl, hrange⟩
  | clear m => rw [(takeClearMask_frame m s).ctrl, (takeClearMask_frame m s).chan]; exact hs
  | insert i hi => rw [insertItem_ctrl, insertItem_chan]; exact hs
  | scan hst => exact ⟨hstartup, hcause, hreject, hdigest, htick, hlisten, hbeat, ⟨fun _ => hst, fun _ => rfl⟩, hrange⟩
  | ownWrite | update => rw [(applyUpdate_frame _ _ s).1.ctrl, (applyUpdate_frame _ _ s).1.chan]; exact hs
  | send => rw [startFrame_eq]; exact hs
  | completeJoin f hv hf hk =>
    obtain ⟨hst, -⟩ := lineRuns_completeJoin hv ((lineInv_voting hv).mp hline) hf hk
    rw [joinCompleted_eq]
    exact ⟨hstartup, hcause, hreject, hdigest, htick, hlisten, ⟨fun _ => .inr ⟨hst, rfl⟩, fun _ => rfl⟩, hscan, hrange⟩
  | fault cause l hfault ho =>
    have hclocked := clocked_of_online ho
    rw [hclocked, if_pos rfl] at hdigest
    rw [enterFaulted_online (s := s.setLine l) ho]
    refine ⟨fun h => ?_, ⟨fun _ => rfl, fun _ => hfault⟩, fun h => ?_, hdigest, nofun, ⟨nofun, nofun⟩, ⟨nofun, nofun⟩,
      ⟨fun _ => rfl, fun _ => hscan.mpr hclocked⟩, hrange⟩
    · rw [hstartup h] at ho; cases ho
    · rw [hreject h] at ho; cases ho
  | join hst =>
    rw [(enterJoin_frame s).ctrl, (enterJoin_frame s).chan]
    have hsettle : s.ctrl.settle = none := ((lineInv_quiet (by rw [hst]; rfl)).mp hline).2.2.1
    rw [hst] at hstartup hcause hreject hdigest hbeat hscan
    have hsilent : ¬s.ctrl.beatTimer.isSome = true := fun h => by
      rcases hbeat.mp h with h | h
      · cases h
      · cases h.1
    refine ⟨fun h => absurd (hstartup h) nofun, ⟨fun h => absurd (hcause.mp h) nofun, nofun⟩, fun h => absurd (hreject h) nofun, hdigest,
      nofun,
      ⟨nofun, nofun⟩, ⟨fun h => absurd h hsilent, fun h => ?_⟩, ⟨fun _ => rfl, fun _ => hscan.mpr rfl⟩,
      hrange⟩
    rcases h with h | ⟨-, h⟩
    · cases h
    · change s.ctrl.settle.isSome = true at h
      rw [hsettle] at h
      cases h
  | run hst hsettle =>
    have hbeats : s.ctrl.beatTimer.isSome = true := hbeat.mpr (.inr ⟨hst, hsettle⟩)
    rw [(enterRun_frame s).ctrl, (enterRun_frame s).chan]
    rw [hst] at hstartup hcause hreject hdigest hlisten hscan
    exact ⟨fun h => absurd (hstartup h) nofun, ⟨fun h => absurd (hcause.mp h) nofun, nofun⟩, fun h => absurd (hreject h) nofun, hdigest,
      nofun,
      ⟨fun h => absurd (hlisten.mp h) nofun, nofun⟩, ⟨fun _ => .inl rfl, fun _ => hbeats⟩, ⟨fun _ => rfl, fun _ => hscan.mpr rfl⟩,
      hrange⟩
  | beatAgain n hv hb =>
    exact ⟨hstartup, hcause, hreject, hdigest, htick, hlisten, ⟨fun _ => hbeat.mp hb, fun _ => rfl⟩, hscan, hrange⟩
  | expiry p why => rw [(evaluateAsCounted_frame p why s).ctrl, (evaluateAsCounted_frame p why s).chan]; exact hs

/-- Settles O55, act by act. -/
theorem stepsKeepQueueBoundsAndLifeCycle : Obligations.StepsKeepQueueBoundsAndLifeCycle := fun _ _ hs h =>
  step_keeps (P := LifeInv) (fun _ _ hs => hs)
    (fun _ _ _ hs hact => by
      obtain ⟨hline, hctrl⟩ := lifeInv_iff.mp hs
      exact lifeInv_iff.mpr ⟨act_keeps_lineInv hline hact, act_keeps_ctrlInv hline hctrl hact⟩) hs h

end Sys2Proof.Lines
end

section
/-! One evaluation at the trip output unit and the port, and what a notice does (obligation O29). -/

namespace Sys2Proof.Notices

open Sys2Proof Sys2Proof.Machine Sys2Proof.Inversion Sys2Proof.Votes Sys2Proof.Groups

/-! ### The port after an evaluation -/

/-- The port after a report: TRIP set where the output becomes asserted (R69). -/
def reportPort (asserts : Bool) (x : SetupPort) : SetupPort := { x with flags := x.flags ||| if asserts then 0x01 else 0 }

/-- The port after a trip event: FIRST_OUT set and the cursor of the group rewound where a record is captured (R78, R82). -/
def capturePort (captures : Bool) (g : GroupNo) (x : SetupPort) : SetupPort :=
  { x with
    flags := x.flags ||| if captures then 0x02 else 0
    cursor := if captures ∧ x.cursor.group = g then { group := g, position := none } else x.cursor }

/-- The port after a clear: REFUSED set where it is refused (R52). -/
def refusePort (refused : Bool) (x : SetupPort) : SetupPort := { x with flags := x.flags ||| if refused then 0x10 else 0 }

@[simp] theorem refusePort_false (x : SetupPort) : refusePort false x = x := by simp [refusePort]
@[simp] theorem reportPort_false (x : SetupPort) : reportPort false x = x := by simp [reportPort]
@[simp] theorem capturePort_false (g : GroupNo) (x : SetupPort) : capturePort false g x = x := by simp [capturePort]

theorem setFlag_port (f : EventFlag) (s : State) : (setFlag f s).port = { s.port with flags := s.port.flags ||| f.bit } := rfl

theorem setFlagIf_port (b : Bool) (f : EventFlag) (s : State) :
    (setFlagIf b f s).port = { s.port with flags := s.port.flags ||| if b then f.bit else 0 } := by
  cases b <;> simp [setFlagIf, setFlag]

theorem captureFirstOut_port (g : GroupNo) (f : FirstOut) (s : State) : (captureFirstOut g f s).port =
    { s.port with cursor := if s.port.cursor.group = g then { group := g, position := none } else s.port.cursor } := by
  change (rewindCursor g (setFirstOut g (some f) s)).port = _
  unfold rewindCursor
  split
  next h =>
    have h : s.port.cursor.group = g := h
    rw [if_pos h, ← h]
    rfl
  next h =>
    have h : ¬s.port.cursor.group = g := h
    rw [if_neg h]
    rfl

theorem takeReport_port (p : PointNo) (g : GroupNo) (after : PointState) (s : State) : (takeReport p g after s).port =
    reportPort (decide (s.ctrl.station = .run ∧ s.trip.groups[g].asserting = [] ∧
      assertingAfter p after s.trip.groups[g].asserting ≠ [])) s.port := by
  unfold takeReport
  dsimp only
  split
  next h =>
    rw [setFlagIf_port, h]
    cases s.trip.groups[g].asserting <;> cases assertingAfter p after _ <;> rfl
  next h =>
    rw [decide_eq_false fun hrun => h hrun.1, reportPort_false]
    rfl

theorem takeTripEvent_port (p : PointNo) (r : PointRecord) (l : List Standing) (s : State) : (takeTripEvent p r l s).port =
    capturePort (decide (s.ctrl.station = .run ∧ s.trip.firstOut[r.group] = none)) r.group s.port := by
  by_cases hrun : s.ctrl.station = .run
  · cases hf : s.trip.firstOut[r.group] with
    | none =>
      rw [takeTripEvent_empty hrun hf]
      rw [setFlag_port, captureFirstOut_port]
      simp [capturePort, hrun, EventFlag.bit, EventFlag.place]
    | some f =>
      rw [takeTripEvent_captured hrun hf]
      simp [setFirstOut]
  · rw [takeTripEvent_outsideRun _ _ _ _ hrun, decide_eq_false fun h => hrun h.1, capturePort_false]

/-- The port after one evaluation: TRIP, FIRST_OUT with the cursor, and REFUSED, each where it is due. -/
theorem settleEvaluation_port (p : PointNo) (r : PointRecord) (c : PointContext) (why : Cause) (s : State) :
    (settleEvaluation p r c why s).port = refusePort (clearRefused r c why)
      (capturePort (isTripEvent c.state (moved r c why).state &&
          decide (s.ctrl.station = .run ∧ s.trip.firstOut[r.group] = none)) r.group
        (reportPort (decide ((moved r c why).state ≠ c.state) && decide (s.ctrl.station = .run ∧
          s.trip.groups[r.group].asserting = [] ∧
          assertingAfter p (moved r c why).state s.trip.groups[r.group].asserting ≠ [])) s.port)) := by
  have hstate : (transition r c why).1 = (moved r c why).state := rfl
  unfold settleEvaluation
  dsimp only
  rw [setFlagIf_port, hstate]
  refine congrArg (refusePort (clearRefused r c why)) ?_
  by_cases hmoved : (moved r c why).state = c.state
  · have hno : isTripEvent c.state (moved r c why).state = false := by
      rw [hmoved]
      cases c.state <;> rfl
    simp [hmoved ▸ hno, hmoved]
  · rw [if_neg hmoved, decide_eq_true hmoved, Bool.true_and]
    cases htrip : isTripEvent c.state (moved r c why).state with
    | true =>
      rw [if_pos rfl, takeTripEvent_port, takeReport_port, takeReport_firstOut, (takeReport_frame ..).ctrl]
      rfl
    | false =>
      rw [if_neg Bool.false_ne_true, takeReport_port, Bool.false_and, capturePort_false]
      rfl

/-! ### What the trip output unit does (R54, R55, R67, R69, R78, R79) -/

theorem isTripEvent_iff (before after : PointState) :
    isTripEvent before after = true ↔ (before = .clear ∨ before = .arming) ∧ after = .tripped := by
  cases before <;> cases after <;> decide

theorem asserting_iff (st : PointState) : st.asserting = true ↔ st = .tripped ∨ st = .releasing ∨ st = .held := by
  cases st <;> decide

theorem tripUnit_eq {x y : TripUnit} (hgroups : x.groups = y.groups) (hfirst : x.firstOut = y.firstOut)
    (hpress : x.press = y.press) : x = y := by
  cases x
  cases y
  simp_all

/-- The output after a report: it follows the set in RUN (R69). -/
theorem reported_eq (st : StationState) (p : PointNo) (after : PointState) (r : Group) : reported st p after r = { r with
    asserting := (reported st p after r).asserting
    output :=
      if decide (st = .run ∧ r.asserting = [] ∧ (reported st p after r).asserting ≠ []) then .asserted
      else if st = .run ∧ r.asserting ≠ [] ∧ (reported st p after r).asserting = [] then .released
      else r.output } := by
  obtain ⟨failAction, startState, asserting, output⟩ := r
  unfold reported outputAfter
  dsimp only
  congr 1
  by_cases hrun : st = .run
  · cases asserting <;> cases assertingAfter p after _ <;> simp [hrun]
  · simp [hrun]

theorem counted_some (s : State) (p : PointNo) (r : PointRecord) (l : List Standing) (f : FirstOut) : counted s p r l (some f) =
    { f with subsequent := if f.subsequent < 255 then f.subsequent + 1 else 255 } := by
  have hmin : min (f.subsequent + 1) Config.subsequentLimit = if f.subsequent < 255 then f.subsequent + 1 else 255 := by
    rw [Config.subsequentLimit]
    split <;> omega
  rw [counted, hmin]

/-- An evaluation that refuses no clear, at the trip output unit and the port. -/
theorem tripUnitFollows_settled {p : PointNo} {r : PointRecord} {c : PointContext} {why : Cause} {s : State}
    (hwhy : clearRefused r c why = false) :
    tripUnitFollows p r c.state (moved r c why) s (settleEvaluation p r c why s) := by
  have hport := settleEvaluation_port p r c why s
  rw [hwhy, refusePort_false] at hport
  have hgroups := settleEvaluation_groups p r c why s
  have hfirst := settleEvaluation_firstOut p r c why s
  have hpress := (settleEvaluation_frame p r c why s).press
  generalize settleEvaluation p r c why s = t at hport hgroups hfirst hpress ⊢
  refine ⟨fun hstill => ?_, fun hmoved => ?_⟩
  · have hno : isTripEvent c.state c.state = false := by cases c.state <;> rfl
    rw [hstill, hno] at hport hfirst
    rw [if_pos hstill] at hgroups
    rw [if_neg (by simp)] at hfirst
    refine ⟨?_, by simpa using hport⟩
    exact tripUnit_eq hgroups hfirst hpress
  · rw [if_neg hmoved] at hgroups
    rw [decide_eq_true hmoved, Bool.true_and] at hport
    have hgroup : t.trip.groups[r.group] = reported s.ctrl.station p (moved r c why).state s.trip.groups[r.group] := by
      rw [hgroups, setAt_getElem, if_pos rfl]
    refine ⟨fun g hg => ⟨?_, ?_⟩, hpress, fun q => ?_, fun trips asserts captures htrips hasserts hcaptures => ?_⟩
    · rw [hgroups, setAt_getElem_ne _ _ _ _ hg]
    · rw [hfirst]
      split
      · rw [setAt_getElem_ne _ _ _ _ hg]
      · rfl
    · rw [hgroup]
      exact (mem_assertingAfter ..).trans (by rw [asserting_iff])
    · have htripEvent : isTripEvent c.state (moved r c why).state =
          decide ((c.state = .clear ∨ c.state = .arming) ∧ (moved r c why).state = .tripped) :=
        Bool.eq_iff_iff.mpr ((isTripEvent_iff ..).trans decide_eq_true_iff.symm)
      rw [htripEvent] at hport hfirst
      have hasserts : asserts = decide (s.ctrl.station = .run ∧ s.trip.groups[r.group].asserting = [] ∧
          (reported s.ctrl.station p (moved r c why).state s.trip.groups[r.group]).asserting ≠ []) := by rw [hasserts, hgroup]
      refine ⟨?_, ?_, ?_⟩
      · rw [hgroup, hasserts]
        exact reported_eq ..
      · rw [hfirst]
        cases htripsValue : trips with
        | false =>
          rw [htrips, decide_eq_false_iff_not] at htripsValue
          rw [if_neg fun h => htripsValue ⟨h.2, of_decide_eq_true h.1⟩, hcaptures, htrips, decide_eq_false htripsValue]
          rfl
        | true =>
          rw [htrips, decide_eq_true_iff] at htripsValue
          rw [if_pos ⟨decide_eq_true htripsValue.2, htripsValue.1⟩, setAt_getElem, if_pos rfl, hcaptures, htrips,
            decide_eq_true htripsValue, Bool.true_and]
          cases hf : s.trip.firstOut[r.group] with
          | none => rfl
          | some f => exact congrArg some (counted_some ..)
      · have hcaptures : (decide ((c.state = .clear ∨ c.state = .arming) ∧ (moved r c why).state = .tripped) &&
            decide (s.ctrl.station = .run ∧ s.trip.firstOut[r.group] = none)) = captures := by
          rw [hcaptures, htrips]
          cases hf : s.trip.firstOut[r.group] <;> simp [Bool.and_comm]
        rw [hport, hcaptures, hasserts]
        rfl

theorem clearRefused_of_ne {r : PointRecord} {c : PointContext} {why : Cause} (h : why ≠ .clear) :
    clearRefused r c why = false := by
  cases why <;> first | rfl | exact absurd rfl h

/-- A notice at a point with a record and a context is one evaluation of it. -/
theorem takeNotice_eq {s : State} {n : Notice} {r : PointRecord} {c : PointContext} (hr : s.ctrl.points[n.point] = some r)
    (hc : s.contexts[n.point] = some c) :
    takeNotice s n = settleEvaluation n.point r (recount r (writeChanges n.changes c.standings) c) .counts s := by
  simp only [takeNotice, evaluate, hr, hc]

/-- Settles O29. -/
theorem noticesMakeOneTransition : Obligations.NoticesMakeOneTransition := by
  rintro s t n r c d hr hc rfl rfl
  have hframe := takeNotice_frame s n
  have hfollows := tripUnitFollows_settled (p := n.point) (r := r) (c := recount r (writeChanges n.changes c.standings) c) (s := s)
    (clearRefused_of_ne (why := .counts) (by simp))
  rw [moved_counts] at hfollows
  refine ⟨?_, takeNotice_contexts_ne s n, ?_, hframe.ctrl, hframe.chan, hframe.line, hframe.peers, hframe.sources, hframe.pins,
    hframe.pending, hframe.choices⟩
  · rw [takeNotice_context, hr, hc]
    rfl
  · rw [takeNotice_eq hr hc]
    exact hfollows

end Sys2Proof.Notices
end

section
/-! Updates of the verdict table: the changes they make to standings, the notices they pass, and the votes after them
(obligations O30 and O59). -/

namespace Sys2Proof.Updates

open Sys2Proof Sys2Proof.Machine Sys2Proof.Inversion Sys2Proof.StartChecks Sys2Proof.Build Sys2Proof.Sources Sys2Proof.Votes
  Sys2Proof.Notices

/-! ### The tables after an update -/

/-- The state an update leaves before its notices are taken (R26). -/
def written (ws : List Write) (after : Option PeerTable) (s : State) : State :=
  (s.setSources (s.sources.map (entryAfter s.ctrl.tick ws))).setPeers after

/-- The notices an update passes, in the order the engine takes them (R35, R43). -/
def passedNotices (ws : List Write) (after : Option PeerTable) (s : State) : List Notice :=
  orderNotices (Config.noticeOrder s.choices)
    (noticesOf (updateChanges s.ctrl.settings.address s.ctrl.points s.peers after s.ctrl.tick ws s.sources))

theorem applyUpdate_voting {ws : List Write} {after : Option PeerTable} {s : State} (h : s.ctrl.station.voting = true) :
    applyUpdate ws after s = (passedNotices ws after s).foldl takeNotice ((written ws after s).setChoices (s.choices + 1)) :=
  if_pos h

theorem verdictOfKey_mem {l : List SourceEntry} (h : (l.map (·.key)).Nodup) {e : SourceEntry} (he : e ∈ l) :
    verdictOfKey l e.key = e.verdict := by
  have hfind : l.find? (fun x => x.key == e.key) = some e := by
    obtain ⟨x, hx⟩ := Option.isSome_iff_exists.mp
      (List.find?_isSome (p := fun x : SourceEntry => x.key == e.key) |>.mpr ⟨e, he, beq_self_eq_true e.key⟩)
    have hkey : x.key = e.key := beq_iff_eq.mp (List.find?_some hx :)
    rw [hx, List.inj_on_of_nodup_map h (List.mem_of_find?_eq_some hx) he hkey]
  rw [verdictOfKey, hfind]

theorem map_entryAfter_keys (tick : Tick) (ws : List Write) (l : List SourceEntry) :
    (l.map (entryAfter tick ws)).map (·.key) = l.map (·.key) := by
  rw [List.map_map]
  exact List.map_congr_left fun e _ => entryAfter_key _ _ e

theorem verdictOfKey_entryAfter {l : List SourceEntry} (h : (l.map (·.key)).Nodup) {e : SourceEntry} (he : e ∈ l) (tick : Tick)
    (ws : List Write) : verdictOfKey (l.map (entryAfter tick ws)) e.key = (entryAfter tick ws e).verdict := by
  have hkeys := map_entryAfter_keys tick ws l
  conv_lhs => rw [← entryAfter_key tick ws e]
  exact verdictOfKey_mem (hkeys ▸ h) (List.mem_map_of_mem he)

/-! ### The changes of an update -/

theorem derivedStandings_getElem? (s : State) (r : PointRecord) (i : Nat) : (derivedStandings s r)[i]? =
    (r.contributors[i]?).map fun k =>
      standingOf (stationState s.ctrl.settings.address s.peers k.station) (verdictOfKey s.sources k) r.mask :=
  List.getElem?_map

theorem mem_entryChanges (t : PointTable) (before after : PeerState) (e e' : SourceEntry) (x : Change) :
    x ∈ entryChanges t before after e e' ↔ ({ point := x.point, position := x.position } : Reference) ∈ e.refs ∧
      x.before = standingOf before e.verdict (maskOfPoint t x.point) ∧
      x.after = standingOf after e'.verdict (maskOfPoint t x.point) ∧ x.before ≠ x.after := by
  obtain ⟨p, i, b, a⟩ := x
  simp only [entryChanges, List.mem_filterMap, Option.ite_none_left_eq_some, Option.some.injEq, Change.mk.injEq]
  constructor
  · rintro ⟨y, hy, hne, rfl, rfl, rfl, rfl⟩
    exact ⟨hy, rfl, rfl, hne⟩
  · rintro ⟨hy, rfl, rfl, hne⟩
    exact ⟨_, hy, hne, rfl, rfl, rfl, rfl⟩

section
variable {s : State} {ws : List Write} {after : Option PeerTable}

/-- The changes of an update, all points together. -/
abbrev changesOf (ws : List Write) (after : Option PeerTable) (s : State) : List Change :=
  updateChanges s.ctrl.settings.address s.ctrl.points s.peers after s.ctrl.tick ws s.sources

theorem sources_nodup (hv : VerdictInv s) : (s.sources.map (·.key)).Nodup := by
  obtain ⟨-, hkeys, -⟩ := hv
  rw [hkeys]
  split
  · exact distinctKeys_nodup _
  · exact List.nodup_nil

theorem contributors_nodup (ht : TableInv s) {p : PointNo} {r : PointRecord} (hr : s.ctrl.points[p] = some r) :
    r.contributors.Nodup := committed_nodup (ht.1 p r hr)

/-- A change of an update names a position whose derived standing changes, and each such position is named (R35). -/
theorem mem_changesOf (ht : TableInv s) (hv : VerdictInv s) (hst : s.ctrl.station.clocked = true) (x : Change) :
    x ∈ changesOf ws after s ↔ ∃ r ∈ s.ctrl.points[x.point],
      (derivedStandings s r)[x.position.val]? = some x.before ∧
      (derivedStandings (written ws after s) r)[x.position.val]? = some x.after ∧ x.before ≠ x.after := by
  have hnodup := sources_nodup hv
  have hrefs {e : SourceEntry} (he : e ∈ s.sources) (p : PointNo) (i : Fin 8) :
      ({ point := p, position := i } : Reference) ∈ e.refs ↔ ∃ r ∈ s.ctrl.points[p], r.contributors[i.val]? = some e.key := by
    rw [(hv.2.2 e he).1]
    exact mem_referencesOf (fun p r hr => contributors_nodup ht hr) p i
  have hmask {p : PointNo} {r : PointRecord} (hr : s.ctrl.points[p] = some r) : maskOfPoint s.ctrl.points p = r.mask := by
    simp only [maskOfPoint, hr]
  simp only [changesOf, updateChanges, List.mem_flatMap, mem_entryChanges, derivedStandings_getElem?]
  constructor
  · rintro ⟨e, he, href, hbefore, hafter, hne⟩
    obtain ⟨r, hr, hk⟩ := (hrefs he ..).mp href
    rw [hmask hr] at hbefore hafter
    refine ⟨r, hr, ?_, ?_, hne⟩
    · rw [hk, hbefore, ← verdictOfKey_mem hnodup he]
      rfl
    · rw [hk, hafter, ← verdictOfKey_entryAfter hnodup he]
      rfl
  · rintro ⟨r, hr, hbefore, hafter, hne⟩
    obtain ⟨k, hk, hbefore⟩ := Option.map_eq_some_iff.mp hbefore
    rw [hk, Option.map_some, Option.some.injEq] at hafter
    have hmem : k ∈ s.sources.map (·.key) := by
      rw [hv.2.1, if_pos hst, mem_distinctKeys, mem_poolEntries]
      exact ⟨x.point, r, hr, List.mem_of_getElem? hk⟩
    obtain ⟨e, he, rfl⟩ := List.mem_map.mp hmem
    refine ⟨e, he, (hrefs he ..).mpr ⟨r, hr, hk⟩, ?_, ?_, hne⟩
    · rw [hmask hr, ← hbefore, verdictOfKey_mem hnodup he]
    · rw [hmask hr, ← hafter, ← verdictOfKey_entryAfter hnodup he s.ctrl.tick ws]
      rfl

/-- Two changes of one update at one point stand in ascending position (R19, R35). -/
theorem changesOf_pairwise (ht : TableInv s) (hv : VerdictInv s) (hst : s.ctrl.station.clocked = true) :
    (changesOf ws after s).Pairwise fun x y => x.point = y.point → x.position < y.position := by
  have hsortedKeys : (s.sources.map (·.key)).Pairwise fun k k' : SourceKey => k.value < k'.value := by
    rw [hv.2.1, if_pos hst]
    exact distinctKeys_pairwise _
  have hkeys := List.pairwise_map.mp hsortedKeys
  have hrefs {e : SourceEntry} (he : e ∈ s.sources) : e.refs = referencesOf s.ctrl.points e.key := (hv.2.2 e he).1
  have hplace {e : SourceEntry} (he : e ∈ s.sources) {x : Change} {b a : PeerState} {e' : SourceEntry}
      (hx : x ∈ entryChanges s.ctrl.points b a e e') :
      ∃ r ∈ s.ctrl.points[x.point], r.contributors[x.position.val]? = some e.key := by
    obtain ⟨href, -⟩ := (mem_entryChanges ..).mp hx
    rw [hrefs he] at href
    exact (mem_referencesOf (fun p r hr => contributors_nodup ht hr) _ _).mp href
  rw [changesOf, updateChanges, List.pairwise_flatMap]
  refine ⟨fun e he => ?_, hkeys.imp_of_mem fun {e e'} he he' hlt x hx y hy hxy => ?_⟩
  · rw [entryChanges, hrefs he]
    refine List.pairwise_filterMap.mpr ((referencesOf_pairwise s.ctrl.points e.key).imp fun {u v} huv x hx y hy hxy => ?_)
    simp only [Option.ite_none_left_eq_some, Option.some.injEq] at hx hy
    obtain ⟨-, rfl⟩ := hx
    obtain ⟨-, rfl⟩ := hy
    exact absurd hxy (ne_of_lt huv)
  · obtain ⟨r, hr, hx⟩ := hplace he hx
    obtain ⟨r', hr', hy⟩ := hplace he' hy
    simp only [← hxy] at hr'
    obtain rfl : r = r' := Option.some.inj (hr.symm.trans hr')
    obtain ⟨hi, hxk⟩ := List.getElem?_eq_some_iff.mp hx
    obtain ⟨hj, hyk⟩ := List.getElem?_eq_some_iff.mp hy
    by_contra hnot
    have hle : y.position.val ≤ x.position.val := Nat.le_of_not_lt hnot
    have hsorted : r.contributors.Pairwise fun a b => a.value < b.value := (ht.1 _ r hr).2.2.1
    have : r.contributors[y.position.val].value ≤ r.contributors[x.position.val].value := by
      rcases Nat.lt_or_eq_of_le hle with hlt | heq
      · exact Nat.le_of_lt (List.pairwise_iff_getElem.mp hsorted _ _ hj hi hlt)
      · simp only [heq, le_refl]
    rw [hxk, hyk] at this
    omega

/-! ### The notices of an update -/

theorem insertNotice_perm (key : Nat → Nat) (n : Notice) (l : List Notice) : (insertNotice key n l).Perm (n :: l) := by
  induction l with
  | nil => exact .refl _
  | cons m l ih =>
    unfold insertNotice
    split
    · exact .refl _
    · exact (ih.cons m).trans (.swap n m l)

/-- The order in which notices are taken is one of their orders (R43). -/
theorem orderNotices_perm (key : Nat → Nat) (l : List Notice) : (orderNotices key l).Perm l := by
  induction l with
  | nil => exact .refl _
  | cons n l ih => exact (insertNotice_perm key n _).trans (ih.cons n)

theorem mem_noticesOf (cs : List Change) (n : Notice) :
    n ∈ noticesOf cs ↔ n.changes = cs.filter (fun c => c.point == n.point) ∧ n.changes ≠ [] := by
  obtain ⟨p, mine⟩ := n
  simp only [noticesOf, List.mem_filterMap, List.mem_finRange, true_and, Option.ite_none_left_eq_some, Option.some.injEq,
    Notice.mk.injEq]
  constructor
  · rintro ⟨q, hne, rfl, rfl⟩
    exact ⟨rfl, hne⟩
  · rintro ⟨rfl, hne⟩
    exact ⟨p, hne, rfl, rfl⟩

theorem noticesOf_nodup (cs : List Change) : ((noticesOf cs).map fun n => n.point).Nodup := by
  rw [List.Nodup, List.pairwise_map]
  refine List.pairwise_filterMap.mpr ((List.nodup_finRange 24).imp fun {p q} hne x hx y hy => ?_)
  simp only [Option.ite_none_left_eq_some, Option.some.injEq] at hx hy
  obtain ⟨-, rfl⟩ := hx
  obtain ⟨-, rfl⟩ := hy
  exact hne

theorem passedNotices_nodup (ws : List Write) (after : Option PeerTable) (s : State) :
    ((passedNotices ws after s).map fun n => n.point).Nodup :=
  ((orderNotices_perm _ _).map _).nodup_iff.mpr (noticesOf_nodup _)

theorem mem_passedNotices (n : Notice) : n ∈ passedNotices ws after s ↔
    n.changes = (changesOf ws after s).filter (fun c => c.point == n.point) ∧ n.changes ≠ [] :=
  (orderNotices_perm _ _).mem_iff.trans (mem_noticesOf _ n)

/-- What a passed notice names: the positions of its point whose derived standing changes (R35). -/
theorem mem_changes_iff (ht : TableInv s) (hv : VerdictInv s) (hst : s.ctrl.station.clocked = true) {n : Notice}
    (hn : n ∈ passedNotices ws after s) {r : PointRecord} (hr : s.ctrl.points[n.point] = some r) (x : Change) :
    x ∈ n.changes ↔ x.point = n.point ∧ (derivedStandings s r)[x.position.val]? = some x.before ∧
      (derivedStandings (written ws after s) r)[x.position.val]? = some x.after ∧ x.before ≠ x.after := by
  rw [((mem_passedNotices n).mp hn).1, List.mem_filter, mem_changesOf ht hv hst, beq_iff_eq, and_comm]
  refine and_congr_right fun hp => ⟨?_, fun h => ⟨r, by simp only [hp]; exact hr, h⟩⟩
  rintro ⟨r', hr', h⟩
  simp only [hp] at hr'
  obtain rfl : r = r' := Option.some.inj (hr.symm.trans hr')
  exact h

theorem derivedStandings_length (s : State) (r : PointRecord) : (derivedStandings s r).length = r.contributors.length :=
  List.length_map _

/-- Lists of standings over the same contributors differ exactly at the positions where a standing changes. -/
theorem derived_ne_iff (t : State) {r : PointRecord} (hr : r.contributors.length ≤ 8) :
    derivedStandings s r ≠ derivedStandings t r ↔ ∃ (i : Fin 8) (b a : Standing),
      (derivedStandings s r)[i.val]? = some b ∧ (derivedStandings t r)[i.val]? = some a ∧ b ≠ a := by
  have hs := derivedStandings_length s r
  have ht := derivedStandings_length t r
  constructor
  · intro hne
    by_contra hnone
    refine hne (List.ext_getElem (hs.trans ht.symm) fun i hi hi' => ?_)
    by_contra hdiffer
    exact hnone ⟨⟨i, by omega⟩, _, _, List.getElem?_eq_getElem hi, List.getElem?_eq_getElem hi', hdiffer⟩
  · rintro ⟨i, b, a, hb, ha, hne⟩ heq
    rw [heq, ha] at hb
    exact hne (Option.some.inj hb).symm

/-- A notice passes for each point whose standings change, and for no other (R35). -/
theorem exists_notice_iff (ht : TableInv s) (hv : VerdictInv s) (hst : s.ctrl.station.clocked = true) (p : PointNo) :
    (∃ n ∈ passedNotices ws after s, n.point = p) ↔
      ∃ r ∈ s.ctrl.points[p], derivedStandings s r ≠ derivedStandings (written ws after s) r := by
  have hlength {r : PointRecord} (hr : s.ctrl.points[p] = some r) : r.contributors.length ≤ 8 := (ht.1 p r hr).2.1
  constructor
  · rintro ⟨n, hn, rfl⟩
    obtain ⟨hchanges, hne⟩ := (mem_passedNotices n).mp hn
    obtain ⟨x, hx⟩ := List.exists_mem_of_ne_nil _ hne
    rw [hchanges, List.mem_filter, mem_changesOf ht hv hst, beq_iff_eq] at hx
    obtain ⟨⟨r, hr, h⟩, hp⟩ := hx
    simp only [hp] at hr
    exact ⟨r, hr, (derived_ne_iff _ (hlength hr)).mpr ⟨_, _, _, h⟩⟩
  · rintro ⟨r, hr, hne⟩
    obtain ⟨i, b, a, h⟩ := (derived_ne_iff _ (hlength hr)).mp hne
    have hx : ({ point := p, position := i, before := b, after := a } : Change) ∈
        (changesOf ws after s).filter fun c => c.point == p :=
      List.mem_filter.mpr ⟨(mem_changesOf ht hv hst _).mpr ⟨r, hr, h⟩, beq_self_eq_true p⟩
    exact ⟨{ point := p, changes := _ }, (mem_passedNotices _).mpr ⟨rfl, List.ne_nil_of_mem hx⟩, rfl⟩

theorem changes_pairwise (ht : TableInv s) (hv : VerdictInv s) (hst : s.ctrl.station.clocked = true) {n : Notice}
    (hn : n ∈ passedNotices ws after s) : n.changes.Pairwise fun x y => x.position < y.position := by
  rw [((mem_passedNotices n).mp hn).1]
  refine ((changesOf_pairwise ht hv hst).filter _).imp_of_mem fun {x y} hx hy hlt => hlt ?_
  rw [beq_iff_eq.mp (List.mem_filter.mp hx).2, beq_iff_eq.mp (List.mem_filter.mp hy).2]

/-! ### The votes after an update -/

/-- Writing changes that name every position where two lists differ, with what the second list has there, gives the second. -/
theorem writeChanges_eq {cs : List Change} {l l' : List Standing} (hlength : l.length = l'.length)
    (hafter : ∀ x ∈ cs, l'[x.position.val]? = some x.after)
    (hnamed : ∀ i : Nat, l[i]? ≠ l'[i]? → ∃ x ∈ cs, x.position.val = i) : writeChanges cs l = l' := by
  induction cs generalizing l with
  | nil =>
    refine List.ext_getElem? fun i => ?_
    by_contra h
    obtain ⟨x, hx, -⟩ := hnamed i h
    cases hx
  | cons x cs ih =>
    refine ih (l := l.set x.position.val x.after) (List.length_set.trans hlength) (fun y hy => hafter y (List.mem_cons_of_mem _ hy))
      fun i hi => ?_
    by_cases hix : x.position.val = i
    · have hx := hafter x List.mem_cons_self
      have hlt : x.position.val < l.length := hlength ▸ (List.getElem?_eq_some_iff.mp hx).1
      rw [← hix, List.getElem?_set_self hlt, hx] at hi
      exact absurd rfl hi
    · rw [List.getElem?_set_ne hix] at hi
      obtain ⟨y, hy, hyi⟩ := hnamed i hi
      rcases List.mem_cons.mp hy with rfl | hy
      · exact absurd hyi hix
      · exact ⟨y, hy, hyi⟩

theorem writeChanges_derived (ht : TableInv s) (hv : VerdictInv s) (hst : s.ctrl.station.clocked = true) {n : Notice}
    (hn : n ∈ passedNotices ws after s) {r : PointRecord} (hr : s.ctrl.points[n.point] = some r) :
    writeChanges n.changes (derivedStandings s r) = derivedStandings (written ws after s) r := by
  have hs := derivedStandings_length s r
  have hw := derivedStandings_length (written ws after s) r
  have hlength : r.contributors.length ≤ 8 := (ht.1 _ r hr).2.1
  refine writeChanges_eq (hs.trans hw.symm) (fun x hx => ((mem_changes_iff ht hv hst hn hr x).mp hx).2.2.1) fun i hne => ?_
  by_cases hi : i < r.contributors.length
  · have hb := List.getElem?_eq_getElem (hs ▸ hi)
    have ha := List.getElem?_eq_getElem (hw ▸ hi)
    have hchanged := fun h => hne (hb.trans ((congrArg some h).trans ha.symm))
    exact ⟨_, (mem_changes_iff ht hv hst hn hr ⟨n.point, ⟨i, by omega⟩, _, _⟩).mpr ⟨rfl, hb, ha, hchanged⟩, rfl⟩
  · rw [List.getElem?_eq_none (by omega), List.getElem?_eq_none (by omega)] at hne
    exact absurd rfl hne

/-- After an update in JOIN and RUN each point whose standings change is counted afresh and makes one transition, and every other
point is as it was (R35, R41 to R48). -/
theorem applyUpdate_context (hs : DerivedInv s) (hst : s.ctrl.station.voting = true) (p : PointNo) {r : PointRecord}
    (hr : s.ctrl.points[p] = some r) {c : PointContext} (hc : s.contexts[p] = some c) :
    (applyUpdate ws after s).contexts[p] = some (
      if derivedStandings (written ws after s) r = derivedStandings s r then c
      else movedByCounts r (recount r (derivedStandings (written ws after s) r) c)) := by
  obtain ⟨ht, hv, -, hderived⟩ := hs
  have hclocked := clocked_of_voting hst
  have hc' : c.standings = derivedStandings s r := hderived hst p r hr c hc
  obtain ⟨hin, hout⟩ := foldl_contexts (f := takeNotice) (point := fun n => n.point)
    (F := fun n => evaluatedBy (fun r c => movedByCounts r (recount r (writeChanges n.changes c.standings) c))
      s.ctrl.points[n.point])
    (base := (written ws after s).setChoices (s.choices + 1))
    takeNotice_frame (fun u n hu => by rw [takeNotice_context, hu.ctrl]; rfl) takeNotice_contexts_ne (passedNotices ws after s)
    (passedNotices_nodup ws after s) _ (.refl _)
  have hnotice := exists_notice_iff (ws := ws) (after := after) ht hv hclocked p
  rw [applyUpdate_voting hst]
  split
  next hsame =>
    refine (hout p fun hp => ?_).trans hc
    obtain ⟨r', hr', hne⟩ := hnotice.mp (List.mem_map.mp hp)
    obtain rfl : r = r' := Option.some.inj (hr.symm.trans hr')
    exact hne hsame.symm
  next hchanged =>
    obtain ⟨n, hn, rfl⟩ := hnotice.mpr ⟨r, hr, Ne.symm hchanged⟩
    refine (hin n hn).trans ?_
    rw [hr, show ((written ws after s).setChoices (s.choices + 1)).contexts[n.point] = some c from hc, evaluatedBy_some, hc',
      writeChanges_derived ht hv hclocked hn hr]

theorem applyUpdate_noContext {p : PointNo} (hc : s.contexts[p] = none) : (applyUpdate ws after s).contexts[p] = none := by
  cases hst : s.ctrl.station.voting with
  | false => rw [applyUpdate_quiet _ _ _ hst]; exact hc
  | true =>
    rw [applyUpdate_voting hst]
    refine foldl_keeps (P := fun u => u.contexts[p] = none) (fun u n hu => ?_) _ hc
    by_cases hp : p = n.point
    · subst hp
      rw [takeNotice_context, hu, evaluatedBy_noContext]
    · rw [takeNotice_contexts_ne u n p hp, hu]

theorem derivedStandings_applyUpdate (r : PointRecord) :
    derivedStandings (applyUpdate ws after s) r = derivedStandings (written ws after s) r := by
  obtain ⟨hframe, hpeers, hsources⟩ := applyUpdate_frame ws after s
  exact derivedStandings_congr (by rw [hframe.ctrl]; rfl) hpeers hsources r

/-- The votes follow the tables over an update (R35, R36). -/
theorem votesFollow_applyUpdate (ws : List Write) (after : Option PeerTable) (s : State) :
    votesFollow s (applyUpdate ws after s) := by
  refine ⟨fun hst => ?_, fun hst hs p => ⟨applyUpdate_noContext, fun r hr c hc => ?_⟩⟩
  · rw [applyUpdate_quiet _ _ _ hst]
    exact ⟨rfl, rfl, rfl, rfl⟩
  · rw [applyUpdate_context hs hst p hr hc, derivedStandings_applyUpdate]

end

/-- An entry after an update takes the last verdict written to its key (R20, R26). -/
theorem entryAfter_eq_written (tick : Tick) (ws : List Write) (e : SourceEntry) : entryAfter tick ws e =
    ((ws.filter fun w => w.key == e.key).getLast?).elim e fun w => writtenEntry tick w.verdict e := by
  unfold entryAfter lastWrite writtenEntry
  cases (ws.filter fun w => w.key == e.key).getLast? with
  | none => rfl
  | some w => simp only [Option.map_some, Option.elim_some, eq_comm (a := w.verdict)]

/-- Settles O30. -/
theorem updatesPassOneNoticeForEachChangedPoint : Obligations.UpdatesPassOneNoticeForEachChangedPoint := by
  intro s u ws after ht hv hu
  have hu : u = written ws after s := by
    refine hu.trans (congrArg (fun l => (s.setSources l).setPeers after) (List.map_congr_left fun e _ => ?_))
    rw [entryAfter_eq_written]
    cases (ws.filter fun w => w.key == e.key).getLast? <;> rfl
  subst hu
  refine ⟨applyUpdate_quiet ws after s, fun hst => ?_⟩
  have hclocked := clocked_of_voting hst
  refine ⟨passedNotices ws after s, applyUpdate_voting hst, passedNotices_nodup ws after s, exists_notice_iff ht hv hclocked,
    fun n hn => ⟨changes_pairwise ht hv hclocked hn, fun x hx => ?_, fun r hr i b a => ?_⟩⟩
  · rw [((mem_passedNotices n).mp hn).1] at hx
    exact beq_iff_eq.mp (List.mem_filter.mp hx).2
  · exact (mem_changes_iff ht hv hclocked hn hr _).trans (and_iff_right rfl)

/-! ### The derived standings (R36, R42) -/

/-- In JOIN and RUN every context holds the standings the tables derive. -/
def StandingsFit (s : State) : Prop := s.ctrl.station.voting = true → ∀ p : PointNo, ∀ r ∈ s.ctrl.points[p], ∀ c ∈ s.contexts[p],
  c.standings = derivedStandings s r

theorem derivedInv_iff {s : State} : DerivedInv s ↔ TableInv s ∧ VerdictInv s ∧ VoteInv s ∧ StandingsFit s := Iff.rfl

theorem movedByCounts_standings (r : PointRecord) (d : PointContext) : (movedByCounts r d).standings = d.standings := by
  rw [← moved_counts]
  rfl

/-- The standings are read from the point table, the settings, the peers, the sources and the contexts. -/
theorem standingsFit_congr {s t : State} (hs : StandingsFit s) (hctrl : t.ctrl.points = s.ctrl.points)
    (hset : t.ctrl.settings = s.ctrl.settings) (hst : t.ctrl.station.voting = true → s.ctrl.station.voting = true)
    (hpeers : t.peers = s.peers) (hsources : t.sources = s.sources)
    (hcontexts : ∀ p : PointNo, ∀ c ∈ t.contexts[p], ∃ c' ∈ s.contexts[p], c'.standings = c.standings) : StandingsFit t := by
  intro hv p r hr c hc
  obtain ⟨c', hc', he⟩ := hcontexts p c hc
  rw [hctrl] at hr
  rw [← he, derivedStandings_congr hset hpeers hsources]
  exact hs (hst hv) p r hr c' hc'

theorem standingsFit_quiet {s : State} (h : s.ctrl.station.voting = false) : StandingsFit s := fun hv => by rw [h] at hv; cases hv

theorem standingsFit_applyUpdate {s : State} {ws : List Write} {after : Option PeerTable} (hs : DerivedInv s) :
    StandingsFit (applyUpdate ws after s) := by
  have hctrl := (applyUpdate_frame ws after s).1.ctrl
  intro hst p r hr d hd
  rw [hctrl] at hst hr
  cases hc : s.contexts[p] with
  | none => cases (applyUpdate_noContext hc).symm.trans (Option.mem_def.mp hd)
  | some c =>
    rw [Option.mem_def, applyUpdate_context hs hst p hr hc, Option.some.injEq] at hd
    rw [← hd, derivedStandings_applyUpdate]
    split
    next hsame => rw [hsame]; exact hs.2.2.2 hst p r hr c hc
    next => rw [movedByCounts_standings]; rfl

/-- An evaluation over the counts there are leaves the standings. -/
theorem evaluateAsCounted_standings (p : PointNo) (why : Cause) (s : State) (q : PointNo) :
    ∀ c ∈ (evaluateAsCounted p why s).contexts[q], ∃ c' ∈ s.contexts[q], c'.standings = c.standings := by
  intro c hc
  by_cases hq : q = p
  · subst hq
    rw [evaluateAsCounted_context] at hc
    cases hr : s.ctrl.points[q] with
    | none => rw [hr, evaluatedBy_noRecord] at hc; exact ⟨c, hc, rfl⟩
    | some r =>
      cases hd : s.contexts[q] with
      | none => rw [hr, hd, evaluatedBy_noContext] at hc; cases hc
      | some d =>
        rw [hr, hd, evaluatedBy_some] at hc
        cases hc
        exact ⟨d, rfl, rfl⟩
  · rw [evaluateAsCounted_contexts_ne p q why s hq] at hc
    exact ⟨c, hc, rfl⟩

theorem standingsFit_evaluateAsCounted {s : State} (p : PointNo) (why : Cause) (hs : StandingsFit s) :
    StandingsFit (evaluateAsCounted p why s) := by
  have h := evaluateAsCounted_frame p why s
  exact standingsFit_congr hs (by rw [h.ctrl]) (by rw [h.ctrl]) (by rw [h.ctrl]; exact id) h.peers h.sources
    (evaluateAsCounted_standings p why s)

/-- JOIN entry takes the standings the tables derive (R59). -/
theorem standingsFit_evaluateAll (s : State) : StandingsFit (evaluateAll s) := by
  intro hst p r hr d hd
  have h := evaluateAll_frame s
  rw [h.ctrl] at hr
  rw [evaluateAll_context, Option.mem_def.mp hr] at hd
  cases hc : s.contexts[p] with
  | none => rw [hc, evaluatedBy_noContext] at hd; cases hd
  | some c =>
    rw [hc, evaluatedBy_some] at hd
    cases hd
    rw [movedByCounts_standings, derivedStandings_congr (by rw [h.ctrl]) h.peers h.sources]
    rfl

theorem derivedStandings_elapse (n : Nat) (s : State) (r : PointRecord) :
    derivedStandings (elapse n s) r = derivedStandings s r := by
  simp only [derivedStandings, stationState_elapse, elapse_settings, elapse_sources]

theorem act_keeps_standingsFit {c : Instr} {s t : State} (hs : DerivedInv s) (h : Act c s t) : StandingsFit t := by
  obtain ⟨-, -, -, hfit⟩ := id hs
  cases h with
  | pins | choices | press | flag | readFlags | port | ack | startup | profile | channel | group | scan | sample | line
  | complete | abort | beatAgain => exact hfit
  | elapse n =>
    intro hst p r hr d hd
    rw [elapse_context, if_pos (by exact hst)] at hd
    obtain ⟨c, hc, rfl⟩ := Option.map_eq_some_iff.mp hd
    rw [derivedStandings_elapse]
    exact hfit hst p r hr c hc
  | reset | leaveReset | start | reject | listen | restart => exact standingsFit_quiet rfl
  | settings x hc hst => exact standingsFit_quiet (by exact hst ▸ rfl)
  | table x hc hst => exact standingsFit_quiet (by exact hst ▸ rfl)
  | clear m =>
    unfold takeClearMask
    split
    · exact foldl_keeps (fun u p hu => standingsFit_evaluateAsCounted p .clear hu) _ hfit
    · exact hfit
  | insert i hi => rw [insertItem_eq]; exact hfit
  | ownWrite | update => exact standingsFit_applyUpdate hs
  | send => rw [startFrame_eq]; exact hfit
  | completeJoin => rw [joinCompleted_eq]; exact hfit
  | fault cause l hcause ho =>
    rw [enterFaulted_online (s := s.setLine l) ho]
    exact standingsFit_quiet rfl
  | hear a e e' ho he hstate hf =>
    intro hst p r hr d hd
    have hsame : derivedStandings (setPeer a e' s) r = derivedStandings s r := by
      simp only [derivedStandings, setPeer, State.setPeers, stationState_hear he hstate]
    rw [hsame]
    exact hfit hst p r hr d hd
  | join hst => rw [enterJoin_eq]; exact standingsFit_evaluateAll _
  | run hst =>
    have h := enterRun_frame s
    refine standingsFit_congr hfit (by rw [h.ctrl]; rfl) (by rw [h.ctrl]; rfl) (fun _ => by rw [hst]; rfl) h.peers h.sources
      fun p d hd => ⟨d, ?_, rfl⟩
    rwa [enterRun_contexts] at hd
  | expiry p why => exact standingsFit_evaluateAsCounted p why hfit

/-- Settles O59, act by act. -/
theorem stepsKeepStandingsDerived : Obligations.StepsKeepStandingsDerived := fun _ _ hs h =>
  step_keeps (P := DerivedInv) (fun _ _ hs => hs)
    (fun c s t hs hact => derivedInv_iff.mpr ⟨act_keeps_tableInv c s t hs.1 hact, act_keeps_verdictInv c s t hs.2.1 hact,
      act_keeps_voteInv c s t hs.2.2.1 hact, act_keeps_standingsFit hs hact⟩) hs h

end Sys2Proof.Updates
end

section
/-! Rules over every command, act by act: the configuration, FAULTED, the event flags, the first-out records and the sequence
counter (obligations O48 to O52). -/

namespace Sys2Proof.Rules

open Sys2Proof Sys2Proof.Machine Sys2Proof.Inversion Sys2Proof.Votes Sys2Proof.Groups

variable {c : Instr} {s t u : State}

/-! ### The configuration (R16, R161) -/

theorem sameConfiguration_refl (s : State) : sameConfiguration s s := ⟨rfl, rfl, rfl, fun _ => ⟨rfl, rfl⟩, fun _ => ⟨rfl, rfl⟩⟩

theorem sameConfiguration_trans (h : sameConfiguration s t) (h' : sameConfiguration t u) : sameConfiguration s u := by
  obtain ⟨hset, hpoints, hprofiles, hchannels, hgroups⟩ := h
  obtain ⟨hset', hpoints', hprofiles', hchannels', hgroups'⟩ := h'
  exact ⟨hset'.trans hset, hpoints'.trans hpoints, hprofiles'.trans hprofiles,
    fun c => ⟨(hchannels' c).1.trans (hchannels c).1, (hchannels' c).2.trans (hchannels c).2⟩,
    fun g => ⟨(hgroups' g).1.trans (hgroups g).1, (hgroups' g).2.trans (hgroups g).2⟩⟩

/-- Settings, table and classifier as they were, and the settings of the groups. -/
theorem sameConfiguration_of (hset : t.ctrl.settings = s.ctrl.settings) (hpoints : t.ctrl.points = s.ctrl.points)
    (hchan : t.chan = s.chan)
    (hgroups : ∀ g : GroupNo, t.trip.groups[g].failAction = s.trip.groups[g].failAction ∧
      t.trip.groups[g].startState = s.trip.groups[g].startState) : sameConfiguration s t := by
  refine ⟨hset, hpoints, by rw [hchan], fun c => ?_, hgroups⟩
  rw [hchan]
  exact ⟨rfl, rfl⟩

theorem sameConfiguration_of_voteFrame (h : VoteFrame s t) : sameConfiguration s t :=
  sameConfiguration_of (by rw [h.ctrl]) (by rw [h.ctrl]) h.chan fun g => ⟨h.failAction g, h.startState g⟩

theorem sameConfiguration_of_updateFrame (h : UpdateFrame s t) : sameConfiguration s t :=
  sameConfiguration_of (by rw [h.ctrl]) (by rw [h.ctrl]) h.chan fun g => ⟨h.failAction g, h.startState g⟩

/-- A change of every group's record that leaves its settings. -/
theorem groupSettings_mapTable {f : Group → Group} (hf : ∀ r, (f r).failAction = r.failAction ∧ (f r).startState = r.startState)
    (v : Vector Group 4) (g : GroupNo) :
    (mapTable f v)[g].failAction = v[g].failAction ∧ (mapTable f v)[g].startState = v[g].startState := by
  have hget : (mapTable f v)[g] = f v[g] := mapTable_getElem f v g
  rw [hget]
  exact hf _

/-- Outside SETUP every act but a reset leaves the configuration, and SETUP is entered by the commands that enter it. -/
theorem act_keeps_configuration (hreset : ¬resets c) (hst : s.ctrl.station = .setup → entersSetup c) (h : Act c s t) :
    sameConfiguration s t ∧ (t.ctrl.station = .setup → entersSetup c) := by
  cases h with
  | pins | choices | press | flag | readFlags | port | ack | elapse | startup | scan | line | complete | abort | beatAgain
  | hear => exact ⟨sameConfiguration_refl s, hst⟩
  | reset p n startup hc => exact absurd hc hreset
  | leaveReset hc => exact ⟨sameConfiguration_refl s, fun _ => hc⟩
  | settings x hc h | profile i p hc h | channel ch e p hc h | group g f u hc h | table x hc h => exact absurd (hst h) hc
  | start => exact ⟨sameConfiguration_refl s, nofun⟩
  | reject r hc =>
    refine ⟨⟨rfl, rfl, rfl, fun c => ?_, fun _ => ⟨rfl, rfl⟩⟩, fun _ => hc⟩
    change (mapTable ChannelRecord.atSetupEntry s.chan.channels)[c.val].enabled = _ ∧
      (mapTable ChannelRecord.atSetupEntry s.chan.channels)[c.val].profile = _
    rw [mapTable_getElem]
    exact ⟨rfl, rfl⟩
  | listen b hc =>
    refine ⟨⟨rfl, rfl, rfl, fun c => ?_, groupSettings_mapTable (f := Group.atListenEntry) (fun _ => ⟨rfl, rfl⟩) _⟩, nofun⟩
    rw [StartChecks.enterListen_channel]
    exact ⟨rfl, rfl⟩
  | restart hc =>
    refine ⟨⟨rfl, rfl, rfl, fun c => ?_, groupSettings_mapTable (f := Group.atSetupEntry) (fun _ => ⟨rfl, rfl⟩) _⟩,
      fun _ => .inr (.inl hc)⟩
    change (mapTable ChannelRecord.atSetupEntry s.chan.channels)[c.val].enabled = _ ∧
      (mapTable ChannelRecord.atSetupEntry s.chan.channels)[c.val].profile = _
    rw [mapTable_getElem]
    exact ⟨rfl, rfl⟩
  | clear m =>
    have h := takeClearMask_frame m s
    exact ⟨sameConfiguration_of_voteFrame h, by rw [h.ctrl]; exact hst⟩
  | insert i hi => rw [insertItem_eq]; exact ⟨sameConfiguration_refl s, hst⟩
  | sample ch rest code =>
    refine ⟨⟨rfl, rfl, rfl, fun d => ?_, fun _ => ⟨rfl, rfl⟩⟩, hst⟩
    simp only [State.setChan_chan, setAt_getElem]
    split
    next h => rw [h, Channels.sampledRecord_enabled, Channels.sampledRecord_profile]; exact ⟨rfl, rfl⟩
    next => exact ⟨rfl, rfl⟩
  | ownWrite | update =>
    exact ⟨sameConfiguration_of_updateFrame (applyUpdate_frame _ _ s).1, by rw [(applyUpdate_frame _ _ s).1.ctrl]; exact hst⟩
  | send => rw [startFrame_eq]; exact ⟨sameConfiguration_refl s, hst⟩
  | completeJoin => rw [joinCompleted_eq]; exact ⟨sameConfiguration_refl s, hst⟩
  | fault cause l hcause ho =>
    rw [enterFaulted_online (s := s.setLine l) ho]
    refine ⟨⟨rfl, rfl, rfl, fun _ => ⟨rfl, rfl⟩,
      groupSettings_mapTable (f := Group.atFaultedEntry) (fun r => ?_) _⟩, nofun⟩
    cases hr : r.failAction <;> simp [Group.atFaultedEntry, hr]
  | join =>
    have h := enterJoin_frame s
    have hbase : sameConfiguration s (joinBase s) := sameConfiguration_refl s
    exact ⟨sameConfiguration_trans hbase (sameConfiguration_of_voteFrame h),
      by rw [h.ctrl]; exact nofun⟩
  | run =>
    have h := enterRun_frame s
    have hbase : sameConfiguration s (s.setCtrl { s.ctrl with station := .run, settle := none }) := sameConfiguration_refl s
    exact ⟨sameConfiguration_trans hbase (sameConfiguration_of_voteFrame h),
      by rw [h.ctrl]; exact nofun⟩
  | expiry p why =>
    have h := evaluateAsCounted_frame p why s
    exact ⟨sameConfiguration_of_voteFrame h, by rw [h.ctrl]; exact hst⟩

theorem not_resets (hpower : c ≠ .powerOn) (hrst : ∀ m, c ≠ .rstLow m) : ¬resets c := by
  rintro (h | ⟨m, h⟩)
  · exact hpower h
  · exact hrst m h

/-- Settles O48, act by act. -/
theorem configurationIsFrozenOutsideSetup : Obligations.ConfigurationIsFrozenOutsideSetup := by
  intro i s t h hst hpower hrst
  have hacts := exec_acts h
  refine (hacts.keeps (P := fun u => sameConfiguration s u ∧ (u.ctrl.station = .setup → entersSetup i)) (fun u v hu hact => ?_)
    ⟨sameConfiguration_refl s, fun h => absurd h hst⟩).1
  obtain ⟨hsame, henters⟩ := act_keeps_configuration (not_resets hpower hrst) hu.2 hact
  exact ⟨sameConfiguration_trans hu.1 hsame, henters⟩

/-! ### FAULTED (R62, R71, R120, R171) -/

/-- What FAULTED freezes. -/
def Frozen (s t : State) : Prop :=
  t.ctrl.station = .faulted ∧ t.ctrl.cause = s.ctrl.cause ∧ t.peers = s.peers ∧ t.sources = s.sources ∧
    t.contexts = s.contexts ∧ t.trip.groups = s.trip.groups ∧ t.line = s.line

theorem act_keeps_frozen (hreset : ¬resets c) (hrestart : c ≠ .restart) (hs : Frozen s t) (h : Act c t u) : Frozen s u := by
  have hout {st : StationState} (hst : t.ctrl.station = st) (hne : st ≠ .faulted) : False := hne (hst.symm.trans hs.1)
  have hquiet : t.ctrl.station.voting = false ∧ t.ctrl.station.online = false := by rw [hs.1]; exact ⟨rfl, rfl⟩
  cases h with
  | pins | choices | press | flag | readFlags | port | ack | scan | sample => exact hs
  | elapse n =>
    obtain ⟨hst, hcause, hpeers, hsources, hcontexts, hgroups, hline⟩ := hs
    refine ⟨hst, hcause, ?_, hsources, ?_, hgroups, hline⟩
    · rw [← hpeers]
      exact if_neg (by rw [hst]; exact Bool.false_ne_true)
    · rw [← hcontexts]
      exact if_neg (by rw [hst]; exact Bool.false_ne_true)
  | reset p n startup hc => exact absurd hc hreset
  | restart hc => exact absurd hc hrestart
  | startup n h | leaveReset hc h | settings x hc h | profile i p hc h | channel ch e p hc h | group g f u hc h | table x hc h
  | start h | reject r hc h | listen b hc h | join h | run h => exact (hout h (by decide)).elim
  | clear m => rw [takeClearMask, if_neg fun h => hout h (by decide)]; exact hs
  | insert i hi => rw [insertItem, if_neg (by rw [hquiet.1]; exact Bool.false_ne_true)]; exact hs
  | ownWrite ch v h | line l k r h | fault cause l hcause h | hear a e e' h | update a e e' ws h =>
    rw [hquiet.2] at h; cases h
  | send hc h | complete f h | completeJoin f h | abort f h | beatAgain n h | expiry p why h => rw [hquiet.1] at h; cases h

/-- Settles O49, act by act. -/
theorem faultedIsLeftByRestartAndResetAlone : Obligations.FaultedIsLeftByRestartAndResetAlone := by
  intro i s t h hst hrestart hpower hrst
  exact (exec_acts h).keeps (P := Frozen s) (fun u v hu hact => act_keeps_frozen (not_resets hpower hrst) hrestart hu hact)
    ⟨hst, rfl, rfl, rfl, rfl, rfl, rfl⟩

/-! ### The event flags (R183) -/

theorem flagSet_of_and {f : EventFlag} (h : s.port.flags &&& t.port.flags = s.port.flags) (hs : s.flagSet f = true) :
    t.flagSet f = true := by
  have hbit := congrArg (fun x : BitVec 7 => x.getLsbD f.place) h
  simp only [BitVec.getLsbD_and] at hbit
  rw [State.flagSet] at hs ⊢
  rw [hs, Bool.true_and] at hbit
  exact hbit

theorem flagSet_of_or {f : EventFlag} {x : BitVec 7} (hs : s.flagSet f = true) (h : t.port.flags = s.port.flags ||| x) :
    t.flagSet f = true := by
  rw [State.flagSet] at hs ⊢
  rw [h, BitVec.getLsbD_or, hs, Bool.true_or]

theorem act_keeps_flag {f : EventFlag} (hreset : ¬resets c) (hrestart : c ≠ .restart) (hread : c ≠ .readEvents)
    (hs : s.flagSet f = true) (h : Act c s t) : t.flagSet f = true := by
  cases h with
  | pins | choices | press | ack | elapse | startup | leaveReset | settings | profile | channel | group | table | start
  | scan | sample | line | complete | abort | hear | beatAgain => exact hs
  | flag f' => exact flagSet_of_or hs rfl
  | readFlags hc => exact absurd hc hread
  | port p hf => rw [State.flagSet] at hs ⊢; rw [← hs, ← hf]; rfl
  | reset p n startup hc => exact absurd hc hreset
  | restart hc => exact absurd hc hrestart
  | reject | listen => exact flagSet_of_or hs rfl
  | clear m => exact flagSet_of_and (takeClearMask_frame m s).flags hs
  | insert i hi => rw [insertItem_eq]; exact hs
  | ownWrite | update => exact flagSet_of_and (applyUpdate_frame _ _ s).1.flags hs
  | send => rw [startFrame_eq]; exact hs
  | completeJoin => rw [joinCompleted_eq]; exact hs
  | fault cause l hcause ho => rw [enterFaulted_online (s := s.setLine l) ho]; exact flagSet_of_or hs rfl
  | join => exact flagSet_of_and (enterJoin_frame s).flags hs
  | run => exact flagSet_of_and (enterRun_frame s).flags hs
  | expiry p why => exact flagSet_of_and (evaluateAsCounted_frame p why s).flags hs

/-- Settles O50, act by act. -/
theorem flagsStayUntilReadOrReset : Obligations.FlagsStayUntilReadOrReset := by
  intro i s t f h hs hread hrestart hpower hrst
  exact (exec_acts h).keeps (P := fun u => u.flagSet f = true)
    (fun u v hu hact => act_keeps_flag (not_resets hpower hrst) hrestart hread hu hact) hs

/-! ### The first-out records (R78) -/

/-- A record of the group stands that continues `f`. -/
def Stands (g : GroupNo) (f : FirstOut) (s : State) : Prop :=
  ∃ f', s.trip.firstOut[g] = some f' ∧ f'.point = f.point ∧ f'.tick = f.tick ∧ f'.snapshot = f.snapshot ∧
    f'.cause = f.cause ∧ f.subsequent ≤ f'.subsequent ∧ f'.subsequent ≤ 255

variable {g : GroupNo} {f : FirstOut}

theorem stands_congr (hs : Stands g f s) (h : t.trip.firstOut = s.trip.firstOut) : Stands g f t := by
  rw [Stands, h]
  exact hs

/-- A trip event counts in a record that stands, up to 255. -/
theorem stands_settled (p : PointNo) (r : PointRecord) (d : PointContext) (why : Cause) (hs : Stands g f s) :
    Stands g f (settleEvaluation p r d why s) := by
  obtain ⟨f', hf', hpoint, htick, hsnapshot, hcause, hle, hmax⟩ := id hs
  have hfirst := settleEvaluation_firstOut p r d why s
  split at hfirst
  next =>
    by_cases hg : g = r.group
    · subst hg
      refine ⟨counted s p r d.standings (some f'), ?_, hpoint, htick, hsnapshot, hcause, ?_, counted_le ..⟩
      · rw [hfirst, setAt_getElem, if_pos rfl, hf']
      · exact le_min (Nat.le_succ_of_le hle) (hle.trans hmax)
    · refine ⟨f', ?_, hpoint, htick, hsnapshot, hcause, hle, hmax⟩
      rw [hfirst, setAt_getElem_ne _ _ _ _ hg, hf']
  next => exact stands_congr hs hfirst

theorem stands_evaluate (p : PointNo) (why : Cause) (h : PointRecord → List Standing → List Standing) (hs : Stands g f s) :
    Stands g f (evaluate p why h s) := by
  unfold evaluate
  split
  · exact stands_settled _ _ _ _ hs
  · exact hs

theorem stands_evaluateAsCounted (p : PointNo) (why : Cause) (hs : Stands g f s) : Stands g f (evaluateAsCounted p why s) := by
  unfold evaluateAsCounted
  split
  · exact stands_settled _ _ _ _ hs
  · exact hs

theorem stands_takeClearMask (m : PointMask) (hs : Stands g f s) : Stands g f (takeClearMask m s) := by
  unfold takeClearMask
  split
  · exact foldl_keeps (fun u p hu => stands_evaluateAsCounted p .clear hu) _ hs
  · exact hs

theorem stands_applyUpdate (ws : List Write) (after : Option PeerTable) (hs : Stands g f s) :
    Stands g f (applyUpdate ws after s) := by
  unfold applyUpdate
  dsimp only
  split
  · exact foldl_keeps (P := Stands g f) (f := takeNotice) (fun u n hu => stands_evaluate n.point _ _ hu) _ hs
  · exact hs

/-- A record stands in RUN and FAULTED, and only an acknowledgement, RESTART and the resets take it away. -/
theorem act_keeps_stands (hreset : ¬resets c) (hrestart : c ≠ .restart) (hack : ∀ b, c = .ackFirstOut b → b.toNat ≠ g.val)
    (hs : (s.ctrl.station = .run ∨ s.ctrl.station = .faulted) ∧ Stands g f s) (h : Act c s t) :
    (t.ctrl.station = .run ∨ t.ctrl.station = .faulted) ∧ Stands g f t := by
  obtain ⟨hst, hstands⟩ := id hs
  have hout {st : StationState} (h : s.ctrl.station = st) (hrun : st ≠ .run) (hfaulted : st ≠ .faulted) : False :=
    hst.elim (fun h' => hrun (h.symm.trans h')) fun h' => hfaulted (h.symm.trans h')
  cases h with
  | pins | choices | press | flag | readFlags | port | elapse | scan | sample | line | complete | abort | hear
  | beatAgain => exact hs
  | ack g' h =>
    obtain ⟨b, hc, hb⟩ := h
    have hne : g ≠ g' := fun he => hack b hc (he ▸ hb)
    refine ⟨hst, ?_⟩
    obtain ⟨f', hf', hrest⟩ := hstands
    exact ⟨f', by rw [← hf']; exact setAt_getElem_ne _ _ _ _ hne, hrest⟩
  | reset p n startup hc => exact absurd hc hreset
  | restart hc => exact absurd hc hrestart
  | startup n h | leaveReset hc h | settings x hc h | profile i p hc h | channel ch e p hc h | group g f u hc h | table x hc h
  | start h | reject r hc h | listen b hc h | join h | run h => exact (hout h (by decide) (by decide)).elim
  | clear m => exact ⟨by rw [(takeClearMask_frame m s).ctrl]; exact hst, stands_takeClearMask m hstands⟩
  | insert i hi => rw [insertItem_eq]; exact hs
  | ownWrite | update =>
    exact ⟨by rw [(applyUpdate_frame _ _ s).1.ctrl]; exact hst, stands_applyUpdate _ _ hstands⟩
  | send => rw [startFrame_eq]; exact hs
  | completeJoin => rw [joinCompleted_eq]; exact hs
  | fault cause l hcause ho =>
    rw [enterFaulted_online (s := s.setLine l) ho]
    exact ⟨.inr rfl, hstands⟩
  | expiry p why => exact ⟨by rw [(evaluateAsCounted_frame p why s).ctrl]; exact hst, stands_evaluateAsCounted p why hstands⟩

/-- Settles O51, act by act. -/
theorem firstOutStandsUntilAcknowledged : Obligations.FirstOutStandsUntilAcknowledged := by
  intro i s t g f h hinv hf hack hrestart hpower hrst
  obtain ⟨hnone, hbound⟩ := hinv
  have hst : s.ctrl.station = .run ∨ s.ctrl.station = .faulted := by
    by_contra hst
    rw [hnone (not_or.mp hst) g] at hf
    cases hf
  exact ((exec_acts h).keeps (P := fun u => (u.ctrl.station = .run ∨ u.ctrl.station = .faulted) ∧ Stands g f u)
    (fun u v hu hact => act_keeps_stands (not_resets hpower hrst) hrestart hack hu hact)
    ⟨hst, f, hf, rfl, rfl, rfl, rfl, le_refl _, hbound g f hf⟩).2

/-! ### The sequence counter (R136) -/

/-- The commands that set the own sequence counter to 0. -/
def zeroes (c : Instr) : Prop := c = .restart ∨ c = .powerOn ∨ (∃ m, c = .rstLow m) ∨ ∃ b, c = .validationEnd b

theorem act_keeps_sequence {n : Byte} (hslot : c ≠ .slotStart)
    (hs : s.line.sequence = n ∨ s.line.sequence = 0 ∧ zeroes c) (h : Act c s t) :
    t.line.sequence = n ∨ t.line.sequence = 0 ∧ zeroes c := by
  cases h with
  | pins | choices | press | flag | readFlags | port | ack | elapse | startup | leaveReset | settings | profile | channel
  | group | table | start | reject | scan | sample | line | complete | abort | hear | beatAgain => exact hs
  | reset p n startup hc => exact .inr ⟨rfl, .inr (hc.imp id .inl)⟩
  | restart hc => exact .inr ⟨rfl, .inl hc⟩
  | listen b hc => exact .inr ⟨rfl, .inr (.inr (.inr hc))⟩
  | clear m => rw [(takeClearMask_frame m s).line]; exact hs
  | insert i hi => rw [insertItem_eq]; exact hs
  | ownWrite | update => rw [(applyUpdate_frame _ _ s).1.line]; exact hs
  | send hc => exact absurd hc hslot
  | completeJoin => rw [joinCompleted_eq]; exact hs
  | fault cause l hcause ho ha hq =>
    rw [enterFaulted_online (s := s.setLine l) ho]
    change l.sequence = n ∨ l.sequence = 0 ∧ _
    rw [hq]
    exact hs
  | join => rw [(enterJoin_frame s).line]; exact hs
  | run => rw [(enterRun_frame s).line]; exact hs
  | expiry p why => rw [(evaluateAsCounted_frame p why s).line]; exact hs

/-- A frame start takes the number the counter held and moves it by one. -/
theorem startFrame_sequence (hf : s.line.inFlight = none) :
    ((startFrame s).line.inFlight = none → (startFrame s).line.sequence = s.line.sequence) ∧
      ∀ f ∈ (startFrame s).line.inFlight, f.sequence = s.line.sequence ∧ (startFrame s).line.sequence = s.line.sequence + 1 := by
  unfold startFrame
  split
  next => exact ⟨fun _ => rfl, fun f h => by rw [hf] at h; cases h⟩
  next =>
    refine ⟨nofun, fun f h => ?_⟩
    cases h
    exact ⟨rfl, rfl⟩

/-- Settles O52. -/
theorem sequenceAdvancesAtFrameStarts : Obligations.SequenceAdvancesAtFrameStarts := by
  intro i s t h
  refine ⟨fun hslot => ?_, fun hslot hf => ?_⟩
  · exact (exec_acts h).keeps (P := fun u => u.line.sequence = s.line.sequence ∨ u.line.sequence = 0 ∧ zeroes i)
      (fun u v hu hact => act_keeps_sequence hslot hu hact) (.inl rfl)
  · subst hslot
    have hstill : (s.line.inFlight = none → s.line.sequence = s.line.sequence) ∧
        ∀ f ∈ s.line.inFlight, f.sequence = s.line.sequence ∧ s.line.sequence = s.line.sequence + 1 :=
      ⟨fun _ => rfl, fun f h => by rw [hf] at h; cases h⟩
    cases h
    split
    next k _ _ _ =>
      unfold beginSlot
      dsimp only
      split
      · exact startFrame_sequence (s := s.setLine { s.line with slots := .slot k }) hf
      · exact hstill
    next => exact hstill

end Sys2Proof.Rules
end

section
/-! The port and the clock: the step, the requests in general, and those that are read off their rules (obligations O1, O3, O8, O9,
O20 and O21). -/

namespace Sys2Proof.Requests

open Sys2Proof Sys2Proof.Machine Sys2Proof.Points Sys2Proof.PointReads

/-! ### Steps (O1, O3) -/

/-- Settles O1. -/
theorem stepRunsFrontCommand : Obligations.StepRunsFrontCommand := by
  intro c rest s h
  rw [step, h]

theorem mem_dueIf {o : Option Nat} {i j : Instr} : i ∈ dueIf o j ↔ i = j ∧ o = some 0 := by
  unfold dueIf
  split
  next h => simp [h]
  next h => simp [h]

/-- The timer of a point, by its kind. -/
theorem pointTimer_zero (kind : TimerKind) (s : State) (p : PointNo) :
    pointTimer kind s p = some 0 ↔ ∃ c ∈ s.contexts[p], c.timer = some { kind := kind, remaining := 0 } := by
  unfold pointTimer
  cases s.contexts[p] with
  | none => simp
  | some c =>
    obtain ⟨state, standings, e, n, u, count, quorum, timer⟩ := c
    cases timer with
    | none => simp
    | some t =>
      obtain ⟨k, r⟩ := t
      simp [Option.ite_none_right_eq_some]

theorem mem_duePoint {s : State} {p : PointNo} {i : Instr} : i ∈ duePoint s p ↔ ∃ c ∈ s.contexts[p],
    i = .confirmTimerExpiry p ∧ c.timer = some { kind := .confirm, remaining := 0 } ∨
      i = .releaseTimerExpiry p ∧ c.timer = some { kind := .release, remaining := 0 } := by
  simp only [duePoint, List.mem_append, mem_dueIf, pointTimer_zero]
  constructor
  · rintro (⟨hi, c, hc, ht⟩ | ⟨hi, c, hc, ht⟩)
    · exact ⟨c, hc, .inl ⟨hi, ht⟩⟩
    · exact ⟨c, hc, .inr ⟨hi, ht⟩⟩
  · rintro ⟨c, hc, ⟨hi, ht⟩ | ⟨hi, ht⟩⟩
    · exact .inl ⟨hi, c, hc, ht⟩
    · exact .inr ⟨hi, c, hc, ht⟩

theorem mem_duePeer {s : State} {a : Address} {i : Instr} : i ∈ duePeer s a ↔ ∃ v ∈ s.peers,
    i = .silenceTimerExpiry a ∧ v[a].silence = some 0 ∨ i = .healTimerExpiry a ∧ v[a].heal = some 0 := by
  simp only [duePeer, List.mem_append, mem_dueIf, peerAt]
  cases s.peers <;> simp

/-- The expiries a step considers are the ones that are due. -/
theorem mem_dueExpiries (s : State) (i : Instr) : i ∈ dueExpiries s ↔ isDue s i := by
  have hvoting : (i ∈ if s.ctrl.station.voting then
        dueIf s.ctrl.beatTimer .beatTimerExpiry ++ (List.finRange 24).flatMap (duePoint s) else []) ↔
      (i = .beatTimerExpiry ∧ s.ctrl.station.voting = true ∧ s.ctrl.beatTimer = some 0) ∨
        ∃ p : PointNo, ∃ c ∈ s.contexts[p], s.ctrl.station.voting = true ∧
          (i = .confirmTimerExpiry p ∧ c.timer = some { kind := .confirm, remaining := 0 } ∨
            i = .releaseTimerExpiry p ∧ c.timer = some { kind := .release, remaining := 0 }) := by
    split
    next h => simp only [List.mem_append, mem_dueIf, List.mem_flatMap, List.mem_finRange, true_and, mem_duePoint, h]
    next h => simp [h]
  have honline : (i ∈ if s.ctrl.station.online then (List.finRange 16).flatMap (duePeer s) else []) ↔
      ∃ v ∈ s.peers, ∃ a : Address, s.ctrl.station.online = true ∧
        (i = .silenceTimerExpiry a ∧ v[a].silence = some 0 ∨ i = .healTimerExpiry a ∧ v[a].heal = some 0) := by
    split
    next h =>
      simp only [List.mem_flatMap, List.mem_finRange, true_and, mem_duePeer, h]
      exact ⟨fun ⟨a, v, hv, h⟩ => ⟨v, hv, a, h⟩, fun ⟨v, hv, a, h⟩ => ⟨a, v, hv, h⟩⟩
    next h => simp [h]
  rw [dueExpiries, isDue]
  simp only [List.mem_append, mem_dueIf, Option.ite_none_right_eq_some, hvoting, honline, or_assoc]

theorem chooseDue_mem (n : Nat) (d : Instr) (ds : List Instr) : chooseDue n d ds ∈ d :: ds := by
  cases ds with
  | nil => exact List.mem_cons_self
  | cons e more =>
    have hlt : Config.dueChoice n % (more.length + 2) < (d :: e :: more).length := Nat.mod_lt _ (Nat.succ_pos _)
    rw [chooseDue, List.getElem?_eq_getElem hlt]
    exact List.getElem_mem hlt

/-- Settles O3: the expiries considered are those due, and one of them is taken where there is any. -/
theorem idleStepTakesADueExpiryOrOneMs : Obligations.IdleStepTakesADueExpiryOrOneMs := by
  intro s hpending
  have hstep : step s = idleStep s := by rw [step, hpending]
  have hdue := mem_dueExpiries s
  rw [hstep, idleStep]
  cases hl : dueExpiries s with
  | nil =>
    rw [hl] at hdue
    exact ⟨fun _ => rfl, fun ⟨i, hi⟩ => absurd ((hdue i).mpr hi) List.not_mem_nil⟩
  | cons d ds =>
    rw [hl] at hdue
    exact ⟨fun hnone => absurd ((hdue d).mp List.mem_cons_self) (hnone d),
      fun _ => ⟨_, (hdue _).mp (chooseDue_mem s.choices d ds), rfl⟩⟩

/-! ### Requests in general (R160, R174, R175, R177) -/

/-- Every request is taken in the states of section 10.3 and answered by a rule of its own. -/
theorem request_takes {i : Instr} (h : (encodeRequest i).isSome = true) :
    ∃ rule : State → Verdicted, ∀ s, exec i s = .next (takeRequest (takenIn i) rule s) := by
  cases i with
  | unknownRequest | setStation | setProfile | setChannel | setGroup | stageBegin | stagePoint | stageAdd | commitPoint
  | dropPoint | start | readStatus | readPoint | readPointRecord | readSource | readPeer | readChannel | readFirstOut
  | readEvents | setEventMask | ackFirstOut | clearPoints | restart => exact ⟨_, fun _ => rfl⟩
  | _ => cases h

/-- Settles O8: what every request has in common, whatever its rule. -/
theorem requestsAreAnsweredOrTurnedAway : Obligations.RequestsAreAnsweredOrTurnedAway := by
  intro i s hi
  obtain ⟨rule, hexec⟩ := request_takes hi
  rw [hexec s]
  refine ⟨fun hidle => ?_, fun ⟨hst, hport⟩ htaken => ?_, fun ⟨hst, hport⟩ => ?_⟩
  · rw [takeRequest_idle]
    by_contra h
    exact hidle ⟨fun hst => h (.inl hst), not_not.mp fun hport => h (.inr hport)⟩
  · rw [takeRequest_denied _ _ _ hst hport htaken]
  · cases htaken : takenIn i s.ctrl.station with
    | false => exact ⟨_, _, [], congrArg _ (takeRequest_denied _ _ _ hst hport htaken), rfl, rfl, fun _ => rfl⟩
    | true =>
      rw [takeRequest_taken _ _ _ hst hport htaken]
      cases rule s with
      | ok x => exact ⟨_, 0, x.1, rfl, rfl, rfl, fun h => absurd rfl h⟩
      | error d =>
        cases d with
        | rejected r => exact ⟨_, _, [r.code], rfl, rfl, rfl, fun _ => rfl⟩
        | _ => exact ⟨_, _, [], rfl, rfl, rfl, fun _ => rfl⟩

/-! ### SET_STATION (R180) -/

theorem toSettings_codes (a : Address) (r : LineRate) {beat scan : Byte} (hbeat : 2 ≤ beat.toNat) (hscan : 1 ≤ scan.toNat) :
    toSettings (natByte a.val) r.code beat scan = some { address := a, rate := r, beat := beat.toNat, scan := scan.toNat } := by
  simp only [toSettings, toAddress_natByte, toRate_code, toBeat, if_pos hbeat, toScan, if_pos hscan]

theorem toSettings_none {address rate beat scan : Byte}
    (h : 15 < address.toNat ∨ 3 < rate.toNat ∨ beat.toNat < 2 ∨ scan.toNat = 0) : toSettings address rate beat scan = none := by
  unfold toSettings
  split
  next a r b n ha hr hb hn =>
    exfalso
    rcases h with h | h | h | h
    · cases ha.symm.trans (toAddress_none h)
    · cases hr.symm.trans (toRate_none h)
    · rw [toBeat, if_neg (by omega)] at hb
      cases hb
    · rw [toScan, if_neg (by omega)] at hn
      cases hn
  next => rfl

/-- Settles O9. -/
theorem setStationLoadsTheSettings : Obligations.SetStationLoadsTheSettings := by
  intro s hs hst beat scan
  refine ⟨fun a r hbeat hscan => ?_, fun address rate h => ?_⟩
  · change execSetStation _ _ _ _ s = _
    simp only [execSetStation, takeRequest_inSetup hs hst, toSettings_codes a r hbeat hscan, answerWith_ok]
  · change execSetStation _ _ _ _ s = _
    simp only [execSetStation, takeRequest_inSetup hs hst, toSettings_none h, answerWith_error, Denial.bytes]

end Sys2Proof.Requests
end

section
/-! Reads, the transactions of the port, time, the resets and RESTART, and the invariants after power-on (obligations O4 to O7, O18,
O20, O21 and O53). -/

namespace Sys2Proof.Resets

open Sys2Proof Sys2Proof.Machine Sys2Proof.Points Sys2Proof.PointReads Sys2Proof.Inversion

/-! ### Reads (R37, R81, R101, R122, R181) -/

theorem presenceByte_eq (e : PeerEntry) : presenceByte e = natByte ((if e.digest.isSome then 1 else 0) +
    (if e.channels.isSome then 2 else 0) + (if e.expected.isSome then 4 else 0) + if e.lastHeard.isSome then 8 else 0) := by
  unfold presenceByte
  generalize e.digest.isSome = d
  generalize e.channels.isSome = c
  generalize e.expected.isSome = x
  generalize e.lastHeard.isSome = l
  revert d c x l
  decide

theorem rewindCursor_eq (g : GroupNo) (s : State) : rewindCursor g s = s.setPort { s.port with
    cursor := if s.port.cursor.group = g then { group := g, position := none } else s.port.cursor } := by
  unfold rewindCursor
  split
  next h => rw [← h]
  next => rfl

section
variable {s : State} (hs : s.serves) (hst : s.ctrl.station ≠ .validating)
include hs hst

theorem readSource_eq (b : Byte) : exec (.readSource b) s = .next
    ((s.sources[b.toNat]?).elim (giveAnswer [2] s) fun e => giveAnswer (0 :: sourceBytes e) s) := by
  change execReadSource b s = _
  rw [execReadSource, takeRequest_notValidating hs hst]
  cases s.sources[b.toNat]? <;> rfl

theorem readPeer_badOperand {b : Byte} (hb : 15 < b.toNat) : exec (.readPeer b) s = .next (giveAnswer [2] s) := by
  change execReadPeer b s = _
  rw [execReadPeer, takeRequest_notValidating hs hst]
  simp only [toAddress_none hb, answerWith_error, Denial.bytes]

theorem readPeer_peer (a : Address) :
    exec (.readPeer (natByte a.val)) s = .next (giveAnswer (0 :: peerBytes (peerView s a)) s) := by
  change execReadPeer _ s = _
  rw [execReadPeer, takeRequest_notValidating hs hst]
  simp only [toAddress_natByte, answerWith_ok]

theorem readChannel_badOperand {b : Byte} (hb : 7 < b.toNat) : exec (.readChannel b) s = .next (giveAnswer [2] s) := by
  change execReadChannel b s = _
  rw [execReadChannel, takeRequest_notValidating hs hst]
  simp only [toChannel_none hb, answerWith_error, Denial.bytes]

theorem readChannel_channel (c : Channel) :
    exec (.readChannel (natByte c.val)) s = .next (giveAnswer (0 :: channelBytes s.chan.channels[c]) s) := by
  change execReadChannel _ s = _
  rw [execReadChannel, takeRequest_notValidating hs hst]
  simp only [toChannel_natByte, answerWith_ok]

theorem readFirstOut_badOperand {b : Byte} (hb : 3 < b.toNat) : exec (.readFirstOut b) s = .next (giveAnswer [2] s) := by
  change execReadFirstOut b s = _
  rw [execReadFirstOut, takeRequest_notValidating hs hst]
  simp only [toGroup_none hb, answerWith_error, Denial.bytes]

/-- READ_FIRST_OUT gives the item at the cursor and moves it (R81). -/
theorem readFirstOut_item (g : GroupNo) {x : List Byte × Cursor}
    (hx : firstOutItem s.trip.groups[g] s.trip.firstOut[g] (cursorFor s.port.cursor g) = x) :
    exec (.readFirstOut (natByte g.val)) s =
      .next (giveAnswer (0 :: x.1) (s.setPort { s.port with cursor := x.2 })) := by
  change execReadFirstOut _ s = _
  rw [execReadFirstOut, takeRequest_notValidating hs hst]
  simp only [toGroup_natByte, answerWith_ok, hx]

theorem ackFirstOut_badOperand {b : Byte} (hb : 3 < b.toNat) : exec (.ackFirstOut b) s = .next (giveAnswer [2] s) := by
  change execAckFirstOut b s = _
  rw [execAckFirstOut, takeRequest_notValidating hs hst]
  simp only [toGroup_none hb, answerWith_error, Denial.bytes]

theorem ackFirstOut_empties (g : GroupNo) : exec (.ackFirstOut (natByte g.val)) s = .next (giveAnswer [0]
    ((s.setTrip { s.trip with firstOut := setAt s.trip.firstOut g none }).setPort { s.port with
      cursor := if s.port.cursor.group = g then { group := g, position := none } else s.port.cursor })) := by
  change execAckFirstOut _ s = _
  rw [execAckFirstOut, takeRequest_notValidating hs hst]
  simp only [toGroup_natByte, answerWith_ok, rewindCursor_eq]
  rfl

end

/-- Settles O20. -/
theorem statusAndTableReadsReturnTheirRecords : Obligations.StatusAndTableReadsReturnTheirRecords := by
  refine ⟨fun s hs => ?_, fun s hs hst => ⟨fun b => ?_, fun b => readPeer_badOperand hs hst, fun a e he => ?_,
    fun b => readChannel_badOperand hs hst, fun c => ?_⟩⟩
  · change execReadStatus s = _
    rw [execReadStatus, takeRequest_taken _ _ _ hs.1 hs.2 (by cases h : s.ctrl.station <;> simp_all [always, State.serves])]
    rfl
  · rw [readSource_eq hs hst]
    cases s.sources[b.toNat]? <;> rfl
  · have hview : peerView s a = e := by
      unfold peerView
      cases hp : s.peers <;> rw [hp] at he <;> exact he.symm
    rw [readPeer_peer hs hst, hview, peerBytes, presenceByte_eq]
    rfl
  · rw [readChannel_channel hs hst, channelBytes]
    cases hcandidate : s.chan.channels[c].candidate <;> rfl

/-- Settles O21. -/
theorem firstOutIsReadAndAcknowledged : Obligations.FirstOutIsReadAndAcknowledged := by
  intro s hs hst
  refine ⟨fun b hb => ⟨readFirstOut_badOperand hs hst hb, ackFirstOut_badOperand hs hst hb⟩,
    fun g => ⟨fun hf => ?empty, fun f hf => ⟨fun hc => ?header, fun k e hc he => ?entry⟩, ackFirstOut_empties hs hst g⟩⟩
  all_goals have hgroup : (cursorFor s.port.cursor g).group = g := by unfold cursorFor; split <;> simp_all
  case empty =>
    have hitem : firstOutItem s.trip.groups[g] s.trip.firstOut[g] (cursorFor s.port.cursor g) =
        (firstOutHeader g s.trip.groups[g] none, { group := g, position := none }) := by
      simp only [hf, firstOutItem, hgroup]
    rw [readFirstOut_item hs hst g hitem]
    rfl
  case header =>
    have hposition : cursorFor s.port.cursor g = { group := g, position := none } := by
      unfold cursorFor
      split
      next h => rw [← h, ← hc.resolve_left (not_not.mpr h)]
      next => rfl
    rw [readFirstOut_item hs hst g (by rw [hposition, Option.mem_def.mp hf])]
    rfl
  case entry =>
    have hposition : cursorFor s.port.cursor g = { group := g, position := some k } := by rw [hc, cursorFor, if_pos rfl]
    have hk : k < f.snapshot.length := (List.getElem?_eq_some_iff.mp he).1
    have hnext : (if k + 1 < f.snapshot.length then some (k + 1) else none) =
        if k + 1 = f.snapshot.length then none else some (k + 1) := by split <;> split <;> first | rfl | omega
    have hitem : firstOutItem s.trip.groups[g] s.trip.firstOut[g] (cursorFor s.port.cursor g) = (snapshotBytes k e,
        { group := g, position := if k + 1 = f.snapshot.length then none else some (k + 1) }) := by
      simp only [hposition, Option.mem_def.mp hf, firstOutItem, he, hnext]
    rw [readFirstOut_item hs hst g hitem]
    rfl

/-! ### Transactions of the port (R174 to R176) -/

theorem sdoBit_eq (s : State) (k : Nat) (j : Fin 8) :
    s.sdoBit (8 * k + j.val) = (s.sdoByte k).map fun b => b.getLsbD (7 - j.val) := by
  have hbyte : (8 * k + j.val) / 8 = k := by omega
  have hbit : (8 * k + j.val) % 8 = j.val := by omega
  have hget (b : Byte) : (byteBits b)[j.val]? = some (b.getLsbD (7 - j.val)) := by simp [byteBits]
  rw [State.sdoBit, hbyte, hbit]
  cases s.sdoByte k with
  | none => rfl
  | some b => exact hget b

/-- Settles O7. -/
theorem portTransactions : Obligations.PortTransactions := by
  intro s
  refine ⟨fun hst ht => congrArg Host.Outcome.next (if_pos ⟨hst, ht⟩), fun h => congrArg Host.Outcome.next (if_neg ?_),
    fun hst => congrArg Host.Outcome.next (if_pos hst), fun hst => congrArg Host.Outcome.next (if_neg (not_not.mpr hst)),
    fun code hs => ?_, fun k => ?_, sdoBit_eq s, fun bytes => rfl⟩
  · rintro ⟨hst, ht⟩
    exact h.elim hst fun h => h ht
  · change execUnknownRequest code s = _
    by_cases hv : s.ctrl.station = .validating
    · rw [execUnknownRequest, takeRequest_validating hs hv, if_pos hv]
    · rw [execUnknownRequest, takeRequest_notValidating hs hv, if_neg hv]
      rfl
  · by_cases hst : s.ctrl.station = .reset
    · simp [State.sdoByte, State.sdoDriven, hst]
    · cases ht : s.port.transaction <;> simp [State.sdoByte, State.sdoDriven, hst, ht]

/-! ### Time (R49, R62, R120, R159) -/

/-- Settles O6. -/
theorem timersRunInTheirStates : Obligations.TimersRunInTheirStates := by
  intro n s
  refine ⟨rfl, rfl, rfl, Votes.elapse_context n s, fun ho => if_neg (by rw [ho]; exact Bool.false_ne_true), fun hp => ?_,
    fun v hv ho => ⟨mapTable (PeerEntry.runDown n) v, ?_, fun a => ?_⟩, rfl, rfl, rfl, rfl, rfl, rfl⟩
  · change runPeers n s.ctrl.station s.peers = none
    unfold runPeers
    rw [hp]
    split <;> rfl
  · change runPeers n s.ctrl.station s.peers = _
    rw [runPeers, if_pos ho, Option.mem_def.mp hv]
    rfl
  · exact mapTable_getElem (PeerEntry.runDown n) v a

/-! ### Power-on, RST and the start-up (R160, R187) -/

theorem inReset_powerOnValues (q : List Instr) (p : InputPins) (n : Nat) (startup : Option Nat) :
    powerOnValues (State.inReset q p n startup) := by
  refine ⟨⟨rfl, rfl, rfl, rfl, rfl, rfl, rfl, rfl⟩, rfl, ⟨emptyPoints_getElem, rfl⟩, fun c => ?_, fun i => ?_, ⟨rfl, rfl⟩,
    ⟨rfl, rfl, rfl, rfl, rfl, rfl, rfl⟩, ⟨rfl, rfl, emptyContexts_getElem⟩, fun g => ?_, rfl, ⟨rfl, rfl, rfl, rfl⟩,
    by simp [State.intLow, State.inReset, SetupPort.powerOn],
    fun k => rfl, rfl, fun g => ?_⟩
  · simp [State.inReset, Classifier.powerOn, ChannelRecord.powerOn]
  · simp [State.inReset, Classifier.powerOn, Profile.powerOn]
  · simp [State.inReset, TripUnit.powerOn, Group.powerOn]
  · simp [State.tripPin, State.inReset, TripUnit.powerOn, Group.powerOn]

/-- Settles O4: each of them leaves the power-on state. -/
theorem powerOnAndRstLowClearEverything : Obligations.PowerOnAndRstLowClearEverything := by
  refine ⟨inReset_powerOnValues .., fun s m => ⟨⟨_, rfl, inReset_powerOnValues .., rfl, rfl⟩, fun hm => ?_, fun hm hlow => ?_⟩⟩
  · exact ⟨_, congrArg Host.Outcome.next (if_pos hm), inReset_powerOnValues .., rfl, rfl⟩
  · have hexec : exec (.rstLow m) s = .next (shortReset s) := congrArg Host.Outcome.next (if_neg (Nat.not_le.mpr hm))
    rw [hexec, shortReset, if_neg (by rw [hlow]; exact Bool.false_ne_true)]
    split
    · exact ⟨_, rfl, rfl, .inr ⟨inReset_powerOnValues .., rfl⟩⟩
    · exact ⟨_, rfl, rfl, .inl rfl⟩

/-- At power-on values the start-up alone runs, so time passes for nothing else. -/
theorem elapse_powerOnValues {s : State} (h : powerOnValues s) (n : Nat) :
    elapse n s = s.setCtrl { s.ctrl with startup := runDown n s.ctrl.startup } := by
  obtain ⟨⟨hst, -, -, -, -, hlisten, hsettle, hbeat⟩, -, -, -, -, ⟨-, hscan⟩, -, ⟨hpeers, -, -⟩, -, hpress, -⟩ := h
  have hctrl : s.ctrl.runDown n = { s.ctrl with startup := runDown n s.ctrl.startup } := by
    simp only [Controller.runDown, hst, hlisten, hsettle, hbeat, runDown, Option.map_none, StationState.clocked,
      Bool.false_eq_true, if_false]
  have hchan : { s.chan with scanTimer := runDown n s.chan.scanTimer } = s.chan := by
    rw [hscan]
    simp only [runDown, Option.map_none]
    rw [← hscan]
  have htrip : { s.trip with press := runDown n s.trip.press } = s.trip := by
    rw [hpress]
    simp only [runDown, Option.map_none]
    rw [← hpress]
  have hcontexts : runContexts n s.ctrl.station s.contexts = s.contexts := by rw [hst]; rfl
  have hrun : runPeers n s.ctrl.station s.peers = s.peers := by rw [hst]; rfl
  rw [elapse, hctrl, hchan, htrip, hcontexts, hrun]
  rfl

/-- Settles O5. -/
theorem startUpLeadsToSetup : Obligations.StartUpLeadsToSetup := by
  intro s h
  have hst : s.ctrl.station = .reset := h.1.1
  refine ⟨fun hnone => congrArg Host.Outcome.next (if_pos ⟨hst, hnone⟩), fun r hr => ?_⟩
  change execStartupComplete s = _
  simp only [execStartupComplete, hst, hr, elapse_powerOnValues h]
  rfl

/-! ### RESTART (R172) -/

/-- Settles O18. -/
theorem restartKeepsConfigurationAlone : Obligations.RestartKeepsConfigurationAlone := by
  intro s hs
  have htaken : takeRequest always (fun s => .ok ([], enterSetup s)) s = giveAnswer [0] (enterSetup s) :=
    takeRequest_taken _ _ _ hs.1 hs.2 (by cases h : s.ctrl.station <;> simp_all [always, State.serves])
  refine ⟨_, congrArg Host.Outcome.next htaken, ?_, fun c => ?_, rfl, rfl, rfl, rfl, rfl, rfl, emptyContexts_getElem, fun g => ?_,
    rfl, rfl, rfl, ?_⟩
  · rw [← countTable_eq_countedOf]
    rfl
  · exact (ClassifierSettings.atSetupEntry_channels s.chan c).trans (StartChecks.atSetupEntry_fresh _)
  · refine ⟨mapTable_getElem Group.atSetupEntry s.trip.groups g, ?_⟩
    simp [giveAnswer, enterSetup, TripUnit.atSetupEntry]
  · simp [State.intLow, giveAnswer, enterSetup, SetupPort.atRestart]

/-! ### The invariants after power-on -/

/-- Settles O53. -/
theorem powerOnStateMeetsTheInvariants : Obligations.PowerOnStateMeetsTheInvariants := by
  have htable : TableInv State.reset := powerOn_tableInv ..
  have hverdict : VerdictInv State.reset := (Sources.verdictInv_unclocked rfl).mpr ⟨rfl, rfl⟩
  have hvote : VoteInv State.reset := (Votes.voteInv_unclocked rfl).mpr emptyContexts_getElem
  obtain ⟨hgroup, hfirst⟩ : GroupInv State.reset ∧ FirstOutInv State.reset :=
    Groups.tripInv_cleared rfl rfl (fun g => by simp [State.reset, State.inReset, TripUnit.powerOn, Group.powerOn]) rfl
  exact ⟨htable, ⟨(Lines.lineInv_unclocked rfl).mpr ⟨rfl, rfl⟩,
    (Lines.ctrlInv_unclocked rfl).mpr ⟨nofun, rfl, nofun, rfl, rfl, rfl, rfl, rfl, by decide⟩⟩, Channels.channelInv_powerOn rfl rfl,
    ⟨htable, hverdict, hvote, nofun⟩, hgroup, hfirst⟩

end Sys2Proof.Resets
end

section
/-! Clear masks taken, and the press on CLR (obligations O23 and O24). -/

namespace Sys2Proof.Clears

open Sys2Proof Sys2Proof.Machine Sys2Proof.Inversion Sys2Proof.Votes Sys2Proof.Groups Sys2Proof.Notices

/-! ### One clear (R48, R52) -/

/-- Whether the point stands in HELD and names the group. -/
def heldIn (s : State) (g : GroupNo) (q : PointNo) : Bool :=
  match s.ctrl.points[q], s.contexts[q] with
  | some r, some c => c.state == .held && r.group == g
  | _, _ => false

/-- Whether the point is latched and stands in TRIPPED. -/
def latchedTrip (s : State) (q : PointNo) : Bool :=
  match s.ctrl.points[q], s.contexts[q] with
  | some r, some c => c.state == .tripped && r.latched
  | _, _ => false

/-- A group record in RUN after points have left its asserting set (R67, R69). -/
def dropFrom (gone : PointNo → Bool) (r : Group) : Group :=
  { r with
    asserting := r.asserting.filter fun p => !gone p
    output := if r.asserting ≠ [] ∧ (r.asserting.filter fun p => !gone p) = [] then .released else r.output }

theorem dropFrom_none {gone : PointNo → Bool} (h : ∀ q, gone q = false) (r : Group) : dropFrom gone r = r := by
  obtain ⟨f, u, l, o⟩ := r
  simp only [dropFrom, h, Bool.not_false, List.filter_true]
  cases l <;> simp

theorem dropFrom_dropFrom (a b : PointNo → Bool) (r : Group) : dropFrom a (dropFrom b r) = dropFrom (fun q => b q || a q) r := by
  obtain ⟨f, u, l, o⟩ := r
  have hfilter : (l.filter fun p => !b p).filter (fun p => !a p) = l.filter fun p => !(b p || a p) := by
    rw [List.filter_filter]
    exact List.filter_congr fun p _ => by rw [Bool.not_or, Bool.and_comm]
  simp only [dropFrom, hfilter]
  congr 1
  have hall : (l.filter fun p => !b p) = [] → (l.filter fun p => !(b p || a p)) = [] := fun h => by
    rw [← hfilter, h, List.filter_nil]
  have hnil : l = [] → (l.filter fun p => !b p) = [] := fun h => by rw [h, List.filter_nil]
  generalize (l.filter fun p => !b p) = x at hall hnil
  generalize (l.filter fun p => !(b p || a p)) = y at hall
  by_cases hx : x = [] <;> by_cases hl : l = [] <;> simp_all

theorem moved_clear_held {r : PointRecord} {c : PointContext} (h : c.state = .held) :
    moved r c .clear = { c with state := .clear, timer := none } := by
  simp [moved, transition, h]

theorem moved_clear_still {r : PointRecord} {c : PointContext} (h : c.state ≠ .held) : moved r c .clear = c := by
  rw [moved, clear_still h]

/-- A report of CLEAR in RUN takes the point out of the set (R67, R69). -/
theorem reported_clear (p : PointNo) (r : Group) : reported .run p .clear r = dropFrom (· == p) r := by
  obtain ⟨f, u, l, o⟩ := r
  have hfilter : assertingAfter p .clear l = l.filter fun q => !(q == p) := rfl
  unfold reported dropFrom outputAfter
  rw [hfilter]
  congr 1
  cases l with
  | nil => rfl
  | cons q l => cases (q :: l).filter fun q => !(q == p) <;> simp

theorem clearPoint_eq {s : State} {p : PointNo} {r : PointRecord} {c : PointContext} (hr : s.ctrl.points[p] = some r)
    (hc : s.contexts[p] = some c) : clearPoint s p = settleEvaluation p r c .clear s := evaluateAsCounted_some .clear hr hc

theorem clearPoint_skip {s : State} {p : PointNo} (h : s.ctrl.points[p] = none ∨ s.contexts[p] = none) : clearPoint s p = s := by
  unfold clearPoint evaluateAsCounted
  split
  next hr hc => rcases h with h | h <;> simp_all
  next => rfl

theorem clearPoint_frame (s : State) (p : PointNo) : VoteFrame s (clearPoint s p) := evaluateAsCounted_frame p .clear s

theorem isTripEvent_clear (r : PointRecord) (c : PointContext) : isTripEvent c.state (moved r c .clear).state = false := by
  by_cases h : c.state = .held
  · rw [moved_clear_held h]
    rfl
  · rw [moved_clear_still h]
    cases c.state <;> rfl

/-- One clear in RUN: the point leaves its group where it is HELD, and is refused where it is latched and TRIPPED. -/
theorem clearPoint_step {s : State} (hst : s.ctrl.station = .run) (p : PointNo) :
    (∀ g : GroupNo, (clearPoint s p).trip.groups[g] = dropFrom (fun q => q == p && heldIn s g p) s.trip.groups[g]) ∧
      (clearPoint s p).port = refusePort (latchedTrip s p) s.port ∧ (clearPoint s p).trip.firstOut = s.trip.firstOut := by
  cases hr : s.ctrl.points[p] with
  | none =>
    have hheld (g : GroupNo) : heldIn s g p = false := by simp only [heldIn, hr]
    have hlatched : latchedTrip s p = false := by simp only [latchedTrip, hr]
    rw [clearPoint_skip (.inl hr), hlatched, refusePort_false]
    exact ⟨fun g => (dropFrom_none (fun q => by rw [hheld, Bool.and_false]) _).symm, rfl, rfl⟩
  | some r =>
    cases hc : s.contexts[p] with
    | none =>
      have hheld (g : GroupNo) : heldIn s g p = false := by simp only [heldIn, hr, hc]
      have hlatched : latchedTrip s p = false := by simp only [latchedTrip, hr, hc]
      rw [clearPoint_skip (.inr hc), hlatched, refusePort_false]
      exact ⟨fun g => (dropFrom_none (fun q => by rw [hheld, Bool.and_false]) _).symm, rfl, rfl⟩
    | some c =>
      have hheld (g : GroupNo) : heldIn s g p = (c.state == .held && r.group == g) := by simp only [heldIn, hr, hc]
      have hlatched : latchedTrip s p = clearRefused r c .clear := by simp only [latchedTrip, hr, hc]; rfl
      rw [clearPoint_eq hr hc]
      refine ⟨fun g => ?_, ?_, ?_⟩
      · rw [settleEvaluation_groups, hheld]
        by_cases h : c.state = .held
        · rw [moved_clear_held h, if_neg (by rw [h]; exact nofun)]
          by_cases hg : g = r.group
          · subst hg
            rw [setAt_getElem, if_pos rfl, hst, reported_clear]
            simp [h]
          · rw [setAt_getElem_ne _ _ _ _ hg, dropFrom_none]
            simp [Ne.symm hg]
        · rw [moved_clear_still h, if_pos rfl, dropFrom_none]
          simp [h]
      · rw [settleEvaluation_port, isTripEvent_clear, Bool.false_and, capturePort_false, hlatched]
        rw [(Bool.and_eq_false_iff).mpr, reportPort_false]
        by_cases h : c.state = .held
        · refine .inr (decide_eq_false fun ⟨_, hnil, hafter⟩ => hafter ?_)
          rw [moved_clear_held h, hnil]
          rfl
        · exact .inl (by rw [moved_clear_still h]; simp)
      · rw [settleEvaluation_firstOut, isTripEvent_clear, if_neg (by simp)]

theorem heldIn_congr {s t : State} {g : GroupNo} {q : PointNo} (hctrl : t.ctrl = s.ctrl) (hc : t.contexts[q] = s.contexts[q]) :
    heldIn t g q = heldIn s g q := by
  simp only [heldIn, hctrl, hc]

theorem latchedTrip_congr {s t : State} {q : PointNo} (hctrl : t.ctrl = s.ctrl) (hc : t.contexts[q] = s.contexts[q]) :
    latchedTrip t q = latchedTrip s q := by
  simp only [latchedTrip, hctrl, hc]

theorem refusePort_refusePort (a b : Bool) (x : SetupPort) : refusePort a (refusePort b x) = refusePort (b || a) x := by
  cases a <;> cases b <;> simp [refusePort, BitVec.or_assoc]

/-- Clears of distinct points in RUN, at the groups, the port and the records. -/
theorem foldl_clearPoint {s : State} (hst : s.ctrl.station = .run) {l : List PointNo} (hl : l.Nodup) :
    (∀ g : GroupNo, (l.foldl clearPoint s).trip.groups[g] = dropFrom (fun q => l.contains q && heldIn s g q) s.trip.groups[g]) ∧
      (l.foldl clearPoint s).port = refusePort (l.any (latchedTrip s)) s.port ∧
      (l.foldl clearPoint s).trip.firstOut = s.trip.firstOut := by
  induction l generalizing s with
  | nil => exact ⟨fun g => (dropFrom_none (fun q => rfl) _).symm, (refusePort_false _).symm, rfl⟩
  | cons p l ih =>
    obtain ⟨hp, hl⟩ := List.nodup_cons.mp hl
    have hctrl : (clearPoint s p).ctrl = s.ctrl := (clearPoint_frame s p).ctrl
    have hcontext {q : PointNo} (hq : q ∈ l) : (clearPoint s p).contexts[q] = s.contexts[q] :=
      evaluateAsCounted_contexts_ne p q .clear s fun h => hp (h ▸ hq)
    obtain ⟨hgroups, hport, hfirst⟩ := clearPoint_step hst p
    obtain ⟨ihgroups, ihport, ihfirst⟩ := ih (s := clearPoint s p) (by rw [hctrl, hst]) hl
    refine ⟨fun g => ?_, ?_, ihfirst.trans hfirst⟩
    · have hgone : (fun q => (q == p && heldIn s g p) || (l.contains q && heldIn (clearPoint s p) g q)) =
          fun q => (p :: l).contains q && heldIn s g q := by
        funext q
        by_cases hqp : q = p
        · subst hqp
          simp [hp]
        · by_cases hq : q ∈ l
          · rw [heldIn_congr hctrl (hcontext hq)]
            simp [hqp, hq]
          · simp [hqp, hq]
      rw [List.foldl_cons, ihgroups, hgroups, dropFrom_dropFrom, hgone]
    · have hany : l.any (latchedTrip (clearPoint s p)) = l.any (latchedTrip s) :=
        Bool.eq_iff_iff.mpr (List.any_eq_true.trans ((exists_congr fun q => and_congr_right fun hq => by
          rw [latchedTrip_congr hctrl (hcontext hq)]).trans List.any_eq_true.symm))
      rw [List.foldl_cons, ihport, hport, hany, List.any_cons, refusePort_refusePort]

/-! ### A clear mask (R72) -/

theorem clearsInGroup_eq (m : PointMask) (s : State) (g : GroupNo) (q : PointNo) :
    clearsInGroup m s g q = (m.getLsbD q.val && heldIn s g q) := by
  unfold clearsInGroup clearsPoint heldIn
  cases s.ctrl.points[q] with
  | none => simp
  | some r => cases s.contexts[q] <;> simp [Bool.and_assoc]

theorem refusesClear_eq (m : PointMask) (s : State) (q : PointNo) :
    refusesClear m s q = (m.getLsbD q.val && latchedTrip s q) := by
  unfold refusesClear latchedTrip
  cases s.ctrl.points[q] with
  | none => simp
  | some r => cases s.contexts[q] <;> simp [Bool.and_assoc]

/-- A clear leaves every context but a HELD one, which returns to CLEAR. -/
theorem evaluatedBy_clear {m : PointMask} {s : State} {p : PointNo} (hp : m.getLsbD p.val = true) :
    evaluatedBy (fun r c => moved r c .clear) s.ctrl.points[p] s.contexts[p] =
      if clearsPoint m s p then s.contexts[p].map fun c => { c with state := .clear, timer := none } else s.contexts[p] := by
  unfold clearsPoint
  cases s.ctrl.points[p] with
  | none => rfl
  | some r =>
    cases s.contexts[p] with
    | none => rfl
    | some c =>
      by_cases h : c.state = .held
      · simp [hp, h, moved_clear_held h]
      · simp [h, moved_clear_still h]

/-- Taking a clear mask in RUN (R72). -/
theorem clearsTaken_takeClearMask (m : PointMask) {s : State} (hst : s.ctrl.station = .run) :
    clearsTaken m s (takeClearMask m s) := by
  have hframe := takeClearMask_frame m s
  rw [takeClearMask, if_pos hst] at hframe ⊢
  have hnodup : ((List.finRange 24).filter fun p : PointNo => m.getLsbD p.val).Nodup := (List.nodup_finRange 24).filter _
  have hmem (p : PointNo) : p ∈ ((List.finRange 24).filter fun p : PointNo => m.getLsbD p.val) ↔ m.getLsbD p.val = true := by simp
  obtain ⟨hgroups, hport, hfirst⟩ := foldl_clearPoint hst hnodup
  obtain ⟨hin, hout⟩ := foldl_contexts (f := clearPoint) (point := fun p => p)
    (F := fun p => evaluatedBy (fun r c => moved r c .clear) s.ctrl.points[p]) (base := s)
    clearPoint_frame (fun u p hu => by rw [clearPoint, evaluateAsCounted_context, hu.ctrl])
    (fun u p q hne => evaluateAsCounted_contexts_ne p q .clear u hne) _ (by rwa [List.map_id']) s (.refl s)
  refine ⟨fun p => ?_, fun g => ?_, ?_, hfirst, hframe.press, hframe.pending, hframe.pins, hframe.ctrl, hframe.chan, hframe.line,
    hframe.peers, hframe.sources, hframe.choices⟩
  · by_cases hp : m.getLsbD p.val = true
    · rw [hin p ((hmem p).mpr hp), evaluatedBy_clear hp]
    · rw [hout p (by rw [List.map_id']; exact mt (hmem p).mp hp), if_neg]
      unfold clearsPoint
      rw [Bool.eq_false_of_not_eq_true hp]
      split <;> exact Bool.false_ne_true
  · have hgone : (fun q => ((List.finRange 24).filter fun p : PointNo => m.getLsbD p.val).contains q && heldIn s g q) =
        clearsInGroup m s g := by
      funext q
      rw [clearsInGroup_eq]
      congr 1
      exact Bool.eq_iff_iff.mpr (List.contains_iff_mem.trans (hmem q))
    rw [hgroups, hgone]
    rfl
  · have hany : ((List.finRange 24).filter fun p : PointNo => m.getLsbD p.val).any (latchedTrip s) =
        (List.finRange 24).any (refusesClear m s) := by
      rw [List.any_filter]
      exact congrArg (List.any _) (funext fun q => (refusesClear_eq m s q).symm)
    rw [hport, hany]
    cases (List.finRange 24).any (refusesClear m s) <;> simp [refusePort]

theorem toScope_none {b : Byte} (h : 1 < b.toNat) : toScope b = none := toYesNo_none h

/-- Settles O23. -/
theorem clearPointsClearsAndQueues : Obligations.ClearPointsClearsAndQueues := by
  intro s m hs hst
  have htaken (scope : Byte) : exec (.clearPoints m scope) s = .next (answerWith s (if m = 0 then .error .badOperand
      else (toScope scope).elim (.error .badOperand) fun network => .ok ([], queueClear network m (takeClearMask m s)))) := by
    change execClearPoints m scope s = _
    rw [execClearPoints, takeRequest_taken _ _ _ hs.1 hs.2 (by rw [hst]; rfl)]
    cases toScope scope <;> rfl
  have hframe := takeClearMask_frame m s
  refine ⟨fun scope h => ?_, fun hm => ⟨takeClearMask m s, clearsTaken_takeClearMask m hst, ?_, ?_⟩⟩
  · rw [htaken]
    rcases h with h | h
    · rw [if_pos h]
      rfl
    · rw [toScope_none h]
      split <;> rfl
  · rw [htaken, if_neg hm]
    rfl
  · rw [htaken, if_neg hm]
    change Host.Outcome.next (giveAnswer [0] (insertItem (.clear m) (takeClearMask m s))) = _
    rw [insertItem_eq, hframe.ctrl, hst, hframe.line]
    rfl

/-- Settles O24. -/
theorem clrPressIsQualified : Obligations.ClrPressIsQualified := by
  intro s
  refine ⟨?_, rfl, fun r u hr hu => ?_⟩
  · change Host.Outcome.next _ = _
    split <;> rfl
  · have hexec : exec .clrQualified s = .next (takeClearMask (BitVec.allOnes 24) u) := by
      subst hu
      change execClrQualified s = _
      rw [execClrQualified, hr]
      rfl
    have hst : u.ctrl.station = s.ctrl.station := by rw [hu]; rfl
    refine ⟨fun hrun => ⟨_, hexec, clearsTaken_takeClearMask _ (hst.trans hrun)⟩, fun hrun => ?_⟩
    rw [hexec, takeClearMask_outsideRun _ _ (by rw [hst]; exact hrun)]

end Sys2Proof.Clears
end

section
/-! Counts, quorums, codes of voltages and classes of codes (obligations O28 and O33). -/

namespace Sys2Proof.Values

open Sys2Proof Sys2Proof.Machine

/-! ### Counts and quorums (R38, R40) -/

theorem count_standings (l : List Standing) : l.count .excursion + l.count .normal + l.count .unavailable = l.length := by
  induction l with
  | nil => rfl
  | cons x l ih => cases x <;> simp <;> omega

theorem recount_counts (r : PointRecord) (l : List Standing) (c : PointContext) :
    ((recount r l c).count, (recount r l c).effectiveQuorum) =
      countAndQuorum r.policy r.quorum (l.count .excursion) (l.count .unavailable) := rfl

/-- Settles O28. -/
theorem policiesGiveCountAndQuorum : Obligations.PoliciesGiveCountAndQuorum := by
  unfold Obligations.PoliciesGiveCountAndQuorum
  rintro r l c d rfl
  have hk := recount_counts r l c
  refine ⟨rfl, rfl, rfl, rfl, count_standings l, rfl, rfl, fun hp => ?_, fun hp => ?_, fun hp => ?_⟩
  all_goals
    simp only [hp, countAndQuorum, Prod.mk.injEq] at hk
    obtain ⟨hcount, hquorum⟩ := hk
  · exact ⟨hcount, hquorum⟩
  · exact ⟨hcount, hquorum⟩
  · have he : (recount r l c).excursions = l.count .excursion := rfl
    have hu : (recount r l c).unavailables = l.count .unavailable := rfl
    rw [hcount, hquorum, he, hu]
    refine ⟨rfl, ?_, ?_, ?_⟩ <;> omega

/-! ### Voltages and codes (R191) -/

theorem codeOfVoltage_of_nonpos {v : Int} (h : v ≤ 0) : codeOfVoltage v = 0 := by rw [codeOfVoltage, if_pos h]

theorem codeOfVoltage_of_nonneg {v : Int} (h : 0 ≤ v) : codeOfVoltage v = min 4095 (4096 * v.toNat / 25000000000000) := by
  by_cases h0 : v ≤ 0
  · obtain rfl : v = 0 := le_antisymm h0 h
    rfl
  · rw [codeOfVoltage, if_neg h0, fullScale]

/-- Within the full scale, the code is the whole part of 4096 × V / 2.5 V (R191). -/
theorem codeOfVoltage_inScale {v : Int} (h0 : 0 ≤ v) (h1 : v < 25000000000000) :
    (codeOfVoltage v : Int) * 25000000000000 ≤ 4096 * v ∧ 4096 * v < ((codeOfVoltage v : Int) + 1) * 25000000000000 := by
  rw [codeOfVoltage_of_nonneg h0]
  omega

/-- Settles the half of O33 on voltages. -/
theorem codeOfVoltage_spec (v : Int) : codeOfVoltage v ≤ 4095 ∧ (v ≤ 0 → codeOfVoltage v = 0) ∧
    (25000000000000 ≤ v → codeOfVoltage v = 4095) ∧
    (0 ≤ v → v < 25000000000000 →
      (codeOfVoltage v : Int) * 25000000000000 ≤ 4096 * v ∧
        4096 * v < ((codeOfVoltage v : Int) + 1) * 25000000000000) := by
  refine ⟨?_, codeOfVoltage_of_nonpos, fun h => ?_, codeOfVoltage_inScale⟩
  · rcases le_total v 0 with h | h
    · rw [codeOfVoltage_of_nonpos h]
      omega
    · rw [codeOfVoltage_of_nonneg h]
      exact min_le_left _ _
  · rw [codeOfVoltage_of_nonneg (by omega)]
    omega

/-! ### Classes (R91, R92) -/

theorem classOf_outside (p : Profile) (v : LineVerdict) (code : Nat) (h : p.sense = .outside) : classOf p v code =
    if code < p.faultLow ∨ p.faultHigh < code then .fault
    else if code < p.low then .low
    else if v = .low ∧ code < p.low + p.hysteresis then .low
    else if p.high < code then .high
    else if v = .high ∧ p.high < code + p.hysteresis then .high
    else .normal := by
  rw [classOf, h]

theorem classOf_inside (p : Profile) (v : LineVerdict) (code : Nat) (h : p.sense = .inside) : classOf p v code =
    if code < p.faultLow ∨ p.faultHigh < code then .fault
    else if p.low ≤ code ∧ code ≤ p.high then .band
    else if v = .band ∧ p.low ≤ code + p.hysteresis ∧ code ≤ p.high + p.hysteresis then .band
    else .normal := by
  rw [classOf, h]

/-- Settles O33. The limits less the hysteresis are integers there and sums here: each test is the same comparison. -/
theorem voltagesAreConvertedAndClassified : Obligations.VoltagesAreConvertedAndClassified := by
  unfold Obligations.VoltagesAreConvertedAndClassified
  refine ⟨codeOfVoltage_spec, fun p v code => ?_⟩
  have hfault : (code < p.faultLow ∨ p.faultHigh < code) ↔ ((code : Int) < p.faultLow ∨ (code : Int) > p.faultHigh) := by omega
  cases hs : p.sense with
  | outside =>
    have hlow : code < p.low ↔ (code : Int) < p.low := by omega
    have hlow' : code < p.low + p.hysteresis ↔ (code : Int) < p.low + p.hysteresis := by omega
    have hhigh : p.high < code ↔ (code : Int) > p.high := by omega
    have hhigh' : p.high < code + p.hysteresis ↔ (code : Int) > (p.high : Int) - p.hysteresis := by omega
    simp only [classOf_outside p v code hs, hfault, hlow, hlow', hhigh, hhigh', true_and, reduceCtorEq, false_and, if_false]
  | inside =>
    have hband : (p.low ≤ code ∧ code ≤ p.high) ↔ ((p.low : Int) ≤ code ∧ (code : Int) ≤ p.high) := by omega
    have hband' : (p.low ≤ code + p.hysteresis ∧ code ≤ p.high + p.hysteresis) ↔
        ((p.low : Int) - p.hysteresis ≤ code ∧ (code : Int) ≤ p.high + p.hysteresis) := by omega
    simp only [classOf_inside p v code hs, hfault, hband, hband', true_and, reduceCtorEq, false_and, if_false]

end Sys2Proof.Values
end

section
/-! Requests from bytes and bits, frames from characters, codes and byte orders, and collisions on the line (obligations O44 to
O47). -/

namespace Sys2Proof.Coding

open Sys2Proof Sys2Proof.Machine

/-! ### Bytes (chapter 11) -/

theorem halfOf_bytes (w : Half) : halfOf (w.extractLsb' 8 8) (w.extractLsb' 0 8) = w :=
  BitVec.extractLsb'_append_extractLsb' (w := 8) (len := 8)

theorem maskOf_bytes (m : PointMask) :
    maskOf (m.extractLsb' 0 8) (m.extractLsb' 8 8) (m.extractLsb' 16 8) = m := by
  have hhigh : m.extractLsb' 16 8 ++ m.extractLsb' 8 8 = m.extractLsb' 8 16 :=
    BitVec.extractLsb'_append_extractLsb'_eq_extractLsb' rfl
  rw [maskOf, hhigh]
  exact BitVec.extractLsb'_append_extractLsb' (w := 16) (len := 8)

theorem highNibble_nibbles (hi lo : BitVec 4) : highNibble (nibbles hi lo) = hi := BitVec.extractLsb'_append_eq_left

theorem lowNibble_nibbles (hi lo : BitVec 4) : lowNibble (nibbles hi lo) = lo := BitVec.extractLsb'_append_eq_right

theorem natByte_toNat (n : Nat) : (natByte n).toNat = n % 256 := by simp [natByte]

/-! ### Bits to bytes (R174, R176) -/

theorem bytesOfBits_append (bytes : List Byte) (more : List Bool) :
    bytesOfBits (bytes.flatMap byteBits ++ more) = bytes ++ bytesOfBits more := by
  induction bytes with
  | nil => rfl
  | cons b bs ih => rw [List.flatMap_cons, List.append_assoc, bytesOfBits_byteBits, ih, List.cons_append]

/-- A proper beginning of the bits completes a proper beginning of the bytes. -/
theorem bytesOfBits_few (bytes : List Byte) (few : List Bool) (h : few <+: bytes.flatMap byteBits)
    (hne : few ≠ bytes.flatMap byteBits) : bytesOfBits few <+: bytes ∧ bytesOfBits few ≠ bytes := by
  induction bytes generalizing few with
  | nil => exact absurd (List.prefix_nil.mp h) hne
  | cons b bs ih =>
    by_cases hlen : few.length < 8
    · rw [bytesOfBits_short few hlen]
      exact ⟨List.nil_prefix, nofun⟩
    · rw [List.flatMap_cons] at h hne
      have hb : byteBits b <+: few :=
        List.prefix_of_prefix_length_le (List.prefix_append _ _) h (by rw [byteBits_length]; omega)
      obtain ⟨tail, rfl⟩ := hb
      obtain ⟨hp, hn⟩ := ih tail ((List.prefix_append_right_inj _).mp h) fun heq => hne (congrArg _ heq)
      rw [bytesOfBits_byteBits]
      exact ⟨List.prefix_cons_inj b |>.mpr hp, fun heq => hn (List.cons.inj heq).2⟩

/-! ### Requests (R175, section 11.4) -/

theorem decodeOperands_unknown : ∀ code : Byte, requestCodes.contains code = false →
    operandCount code = 0 ∧ decodeOperands code [] = some (.unknownRequest code) := by decide

/-- No request is spelled while operand bytes are missing. -/
theorem decodeOperands_short (code : Byte) (ops : List Byte) (h : ops.length < operandCount code) :
    decodeOperands code ops = none := by
  unfold decodeOperands
  split
  any_goals rfl
  all_goals simp_all [operandCount]

theorem encodeRequest_ne_nil (i : Instr) : encodeRequest i ≠ some [] := by cases i <;> nofun

/-- A request's code calls for as many operand bytes as follow it, and they spell the request. -/
theorem decodeOperands_encodeRequest (i : Instr) (hi : i.wellFormed = true) (code : Byte) (ops : List Byte)
    (h : encodeRequest i = some (code :: ops)) : operandCount code = ops.length ∧ decodeOperands code ops = some i := by
  cases i
  case unknownRequest c =>
    obtain ⟨rfl, rfl⟩ := List.cons.inj (Option.some.inj h)
    exact decodeOperands_unknown c (by simpa [Instr.wellFormed] using hi)
  all_goals
    simp only [encodeRequest, Option.some.injEq, List.cons_append, List.cons.injEq, halfBytes, maskBytes, reduceCtorEq] at h
  all_goals
    obtain ⟨rfl, rfl⟩ := h
    refine ⟨rfl, ?_⟩
  case setProfile p fl l hi fh hy pe se =>
    change some (Instr.setProfile p _ _ _ _ hy pe se) = _
    rw [halfOf_bytes, halfOf_bytes, halfOf_bytes, halfOf_bytes]
  case stagePoint q m po la g c r =>
    change some (Instr.stagePoint q m po la g _ _) = _
    rw [halfOf_bytes, halfOf_bytes]
  case clearPoints m sc =>
    change some (Instr.clearPoints _ sc) = _
    rw [maskOf_bytes]
  all_goals rfl

theorem decodeRequest_append (i : Instr) (hi : i.wellFormed = true) (bytes : List Byte) (h : encodeRequest i = some bytes)
    (more : List Byte) : decodeRequest (bytes ++ more) = some i := by
  cases bytes with
  | nil => exact absurd h (encodeRequest_ne_nil i)
  | cons code ops =>
    obtain ⟨hcount, hdecode⟩ := decodeOperands_encodeRequest i hi code ops h
    rw [List.cons_append, decodeRequest, hcount, List.take_left, hdecode]

theorem decodeRequest_few (i : Instr) (hi : i.wellFormed = true) (bytes : List Byte) (h : encodeRequest i = some bytes)
    (few : List Byte) (hp : few <+: bytes) (hne : few ≠ bytes) : decodeRequest few = none := by
  cases few with
  | nil => rfl
  | cons code ops =>
    obtain ⟨tail, rfl⟩ := hp
    obtain ⟨hcount, -⟩ := decodeOperands_encodeRequest i hi code (ops ++ tail) h
    have htail : 0 < tail.length := List.length_pos_iff.mpr fun ht => hne (by rw [ht, List.append_nil])
    rw [decodeRequest]
    refine decodeOperands_short code _ ?_
    rw [hcount, List.length_append, List.length_take]
    omega

/-- Settles O44. -/
theorem requestsDecodeFromTheirBytes : Obligations.RequestsDecodeFromTheirBytes := by
  unfold Obligations.RequestsDecodeFromTheirBytes
  intro i bytes levels hi h hlevels
  obtain rfl : levels = bytes.flatMap byteBits := hlevels
  refine ⟨decodeRequest_append i hi bytes h, decodeRequest_few i hi bytes h, fun more => ?_, fun few hp hne => ?_⟩
  · rw [decodeSamples, bytesOfBits_append, decodeRequest_append i hi bytes h]
  · obtain ⟨hbytes, hshort⟩ := bytesOfBits_few bytes few hp hne
    exact decodeRequest_few i hi bytes h _ hbytes hshort

/-! ### Frames (R123 to R129, R188) -/

/-- A frame with a body of at most 40 bytes comes back as its kind, sender, sequence number and body. -/
theorem decodeFrame_frameCharacters (kind : BitVec 4) (a : Address) (q : Byte) (body : List Byte) (h : body.length ≤ 40) :
    decodeFrame (frameCharacters kind a q body) = decodeBody kind a q body := by
  have hlen : (natByte body.length).toNat = body.length := by rw [natByte_toNat]; omega
  have ha : (⟨(BitVec.ofNat 4 a.val).toNat, (BitVec.ofNat 4 a.val).isLt⟩ : Address) = a :=
    Fin.ext ((BitVec.toNat_ofNat a.val 4).trans (Nat.mod_eq_of_lt a.isLt))
  simp only [frameCharacters, decodeFrame, List.cons_append, hlen, if_neg (Nat.not_lt.mpr h), List.take_left, List.drop_left,
    halfBytes, halfOf_bytes, if_true, highNibble_nibbles, lowNibble_nibbles, ha]

theorem vector_of_eight (v : Vector Byte 8) : ∃ v0 v1 v2 v3 v4 v5 v6 v7, v = #v[v0, v1, v2, v3, v4, v5, v6, v7] :=
  match v with
  | ⟨⟨[v0, v1, v2, v3, v4, v5, v6, v7]⟩, _⟩ => ⟨v0, v1, v2, v3, v4, v5, v6, v7, rfl⟩

/-- Settles O45. -/
theorem framesDecodeFromTheirCharacters : Obligations.FramesDecodeFromTheirCharacters := by
  unfold Obligations.FramesDecodeFromTheirCharacters
  intro i chars hi h
  cases i
  all_goals simp only [encodeFrame, Option.some.injEq, reduceCtorEq] at h
  all_goals subst h
  case receiveJoin a q d b m =>
    rw [decodeFrame_frameCharacters _ _ _ _ (by simp [halfBytes])]
    change Instr.receiveJoin a q _ b m = _
    rw [halfOf_bytes]
  case receiveBeat a q d v =>
    obtain ⟨v0, v1, v2, v3, v4, v5, v6, v7, rfl⟩ := vector_of_eight v
    rw [decodeFrame_frameCharacters _ _ _ _ (by simp [halfBytes])]
    change Instr.receiveBeat a q _ _ = _
    rw [halfOf_bytes]
  case receiveChange a q e =>
    simp only [Instr.wellFormed, Bool.and_eq_true, decide_eq_true_eq] at hi
    rw [decodeFrame_frameCharacters _ _ _ _ (by simp; omega)]
    refine if_pos ?_
    rw [natByte_toNat]
    omega
  case receiveProbe a q e =>
    simp only [Instr.wellFormed, Bool.and_eq_true, decide_eq_true_eq] at hi
    rw [decodeFrame_frameCharacters _ _ _ _ (by simp; omega)]
    refine if_pos ?_
    rw [natByte_toNat]
    omega
  case receiveClear a q m =>
    rw [decodeFrame_frameCharacters _ _ _ _ (by simp [maskBytes])]
    change Instr.receiveClear a q _ = _
    rw [maskOf_bytes]

/-! ### Two frames on one line (R142, R143, R152) -/

/-- Where one station releases the line for the first time against the other, it reads a mismatch, and up to there the line
carries what the other drives. -/
theorem firstMismatch_of_agree (l x y : List Bool) :
    firstMismatch (l ++ false :: x) (lineLevels (l ++ false :: x) (l ++ true :: y)) = some l.length ∧
      (lineLevels (l ++ false :: x) (l ++ true :: y)).take (l.length + 1) = l ++ [true] := by
  induction l with
  | nil => exact ⟨rfl, rfl⟩
  | cons b l ih =>
    obtain ⟨hm, ht⟩ := ih
    simp only [firstMismatch, lineLevels, List.cons_append, List.zipWith_cons_cons, List.zip_cons_cons, Bool.or_self,
      List.findIdx?_cons, List.length_cons, List.take_succ_cons] at hm ht ⊢
    exact ⟨by simp [hm], by rw [ht]⟩

/-- The levels a frame drives until the address bits that precede bit `j`: break, delimiter, start bit, those bits (R143, R144,
R188). -/
def levelsBefore (a : Address) (j : Nat) : List Bool :=
  List.replicate 12 true ++ List.replicate 2 false ++ true :: (List.range j).map fun i => !a.val.testBit i

theorem levelsBefore_length (a : Address) (j : Nat) : (levelsBefore a j).length = 15 + j := by
  simp [levelsBefore]
  omega

theorem nibbles_getLsbD (k : BitVec 4) (a : Address) {i : Nat} (h : i < 4) :
    (nibbles k (BitVec.ofNat 4 a.val)).getLsbD i = a.val.testBit i := by
  rw [nibbles, BitVec.getLsbD_append, if_pos h, BitVec.getLsbD_ofNat, decide_eq_true h, Bool.true_and]

theorem frameLevels_split (k : BitVec 4) (a : Address) (q : Byte) (body : List Byte) (j : Nat) (h : j < 4) :
    ∃ rest, frameLevels (frameCharacters k a q body) = levelsBefore a j ++ (!a.val.testBit j) :: rest := by
  have hrange : List.range 8 = List.range j ++ j :: List.range' (j + 1) (7 - j) := by interval_cases j <;> rfl
  have hbits : (List.range j).map (fun i => !(nibbles k (BitVec.ofNat 4 a.val)).getLsbD i) =
      (List.range j).map fun i => !a.val.testBit i :=
    List.map_congr_left fun i hi => by rw [nibbles_getLsbD k a ((List.mem_range.mp hi).trans h)]
  simp only [frameLevels, frameCharacters, List.cons_append, List.flatMap_cons, characterLevels, hrange, List.map_append,
    List.map_cons, hbits, nibbles_getLsbD k a h, levelsBefore, List.append_assoc]
  exact ⟨_, rfl⟩

/-- Settles O47. -/
theorem lowestAddressBitDecidesCollisions : Obligations.LowestAddressBitDecidesCollisions := by
  unfold Obligations.LowestAddressBitDecidesCollisions
  rintro a b j ka kb qa qb bodyA bodyB hj hbelow ha hb la lb rfl rfl
  obtain ⟨x, hx⟩ := frameLevels_split ka a qa bodyA j hj
  obtain ⟨y, hy⟩ := frameLevels_split kb b qb bodyB j hj
  have hsame : levelsBefore a j = levelsBefore b j := by
    simp only [levelsBefore, List.append_cancel_left_eq, List.cons.injEq, true_and]
    exact List.map_congr_left fun i hi => by rw [hbelow i (List.mem_range.mp hi)]
  rw [hx, hy, ha, hb, ← hsame, Bool.not_true, Bool.not_false]
  obtain ⟨hm, ht⟩ := firstMismatch_of_agree (levelsBefore a j) x y
  have hlen := levelsBefore_length a j
  have h16 : 16 + j = (levelsBefore a j).length + 1 := by omega
  rw [hm, h16, ht, hlen]
  refine ⟨rfl, ?_⟩
  rw [← hlen, List.take_length_add_append]
  rfl

/-! ### Codes and byte orders (section 11.1, 11.2, 11.4) -/

theorem verdictOfCode_beyond (n : Nat) (h : 7 ≤ n) : verdictOfCode n = .fault := by
  obtain ⟨k, rfl⟩ := Nat.exists_eq_add_of_le h
  rw [Nat.add_comm]
  rfl

theorem halfBytes_toNat (w : Half) : (halfBytes w).map (·.toNat) = [w.toNat / 256, w.toNat % 256] := by
  have hw := w.isLt
  simp only [halfBytes, List.map_cons, List.map_nil, BitVec.extractLsb'_toNat, Nat.shiftRight_eq_div_pow, Nat.reducePow,
    List.cons.injEq, and_true]
  omega

theorem natHalfBytes_eq (n : Nat) : natHalfBytes n = [natByte (n / 256), natByte n] := by
  simp only [natHalfBytes, halfBytes, List.cons.injEq, and_true]
  constructor <;> apply BitVec.eq_of_toNat_eq <;>
    simp only [natByte, BitVec.extractLsb'_toNat, BitVec.toNat_ofNat, Nat.shiftRight_eq_div_pow] <;> omega

theorem tickBytes_toNat (t : Tick) : (tickBytes t).map (·.toNat) =
    [t.toNat / 2 ^ 24, t.toNat / 2 ^ 16 % 256, t.toNat / 256 % 256, t.toNat % 256] := by
  have ht := t.isLt
  simp only [tickBytes, List.map_cons, List.map_nil, BitVec.extractLsb'_toNat, Nat.shiftRight_eq_div_pow, Nat.reducePow,
    List.cons.injEq, and_true, true_and]
  omega

theorem maskBytes_getLsbD (m : PointMask) (j k : Nat) (hj : j < 3) (hk : k < 8) :
    ∃ b ∈ (maskBytes m)[j]?, b.getLsbD k = m.getLsbD (8 * j + k) := by
  have hbyte : (maskBytes m)[j]? = some (m.extractLsb' (8 * j) 8) := by interval_cases j <;> rfl
  refine ⟨_, hbyte, ?_⟩
  rw [BitVec.getLsbD_extractLsb', decide_eq_true hk, Bool.true_and]

/-! ### The digest stream (R8, R128) -/

/-- What a point brings to the digest stream. -/
def streamOf (p : PointNo) (o : Option PointRecord) : List Byte := o.elim [] (recordBytes p)

theorem digestStream_eq (beat : Nat) (t : PointTable) :
    digestStream beat t = natByte beat :: (List.finRange 24).flatMap fun p => streamOf p t[p] := by
  have hwalk (l : List PointNo) : (l.filterMap fun p => t[p].map fun r => (p, r)).flatMap (fun e => recordBytes e.1 e.2) =
      l.flatMap fun p => streamOf p t[p] := by
    induction l with
    | nil => rfl
    | cons p l ih =>
      rw [List.filterMap_cons, List.flatMap_cons, ← ih]
      cases t[p] <;> rfl
  rw [digestStream, presentRecords, hwalk]

/-- Group, confirm time and release time do not enter the stream (R8). -/
theorem streamOf_settings (p : PointNo) (o : Option PointRecord) (g : GroupNo) (confirm release : Nat) :
    streamOf p (o.map fun r => { r with group := g, confirm := confirm, release := release }) = streamOf p o := by
  cases o <;> rfl

/-- Settles O46. -/
theorem chapterElevenCodesAndBytes : Obligations.ChapterElevenCodesAndBytes := by
  unfold Obligations.ChapterElevenCodesAndBytes
  refine ⟨?codes, ⟨rfl, verdictOfCode_beyond⟩, ⟨halfBytes_toNat, fun n => ⟨natByte_toNat n, natHalfBytes_eq n⟩,
    tickBytes_toNat, maskBytes_getLsbD⟩, ⟨fun beat t => ?stream, fun beat t t' h => ?shared, fun g c r => rfl⟩,
    ?crc, rfl, ?_, rfl, rfl, rfl, rfl, rfl⟩
  case codes =>
    exact ⟨rfl, rfl, rfl, rfl, rfl, fun _ => rfl, rfl, rfl, rfl, rfl, rfl, rfl, rfl, rfl, rfl, rfl⟩
  case stream =>
    rw [digestStream_eq]
    refine congrArg _ (congrArg (List.flatMap · _) (funext fun p => ?_))
    cases t[p] with
    | none => rfl
    | some r => simp only [streamOf, Option.elim, recordBytes, directionByte, SourceKey.value, Nat.mul_comm]
  case shared =>
    rw [digestStream_eq, digestStream_eq]
    refine congrArg _ (congrArg (List.flatMap · _) (funext fun p => ?_))
    rw [h p, streamOf_settings]
  case crc => decide +kernel
  all_goals rfl

end Sys2Proof.Coding
end

section
/-! The line: slots, own frames, aborts, broken frames, and the own address heard (obligations O35 to O39). -/

namespace Sys2Proof.Transmission

open Sys2Proof Sys2Proof.Machine Sys2Proof.Inversion Sys2Proof.Lines Sys2Proof.Coding

/-! ### Entry to FAULTED (R171) -/

theorem group_atFaultedEntry (r : Group) :
    r.atFaultedEntry = { r with output := if r.failAction = .trip then .asserted else r.output } := by
  obtain ⟨action, start, asserting, output⟩ := r
  cases action <;> rfl

theorem entersFaulted_enterFaulted (cause : FaultCause) {u : State} (h : u.ctrl.station.online = true) :
    entersFaulted cause u (enterFaulted cause u) := by
  rw [enterFaulted_online h]
  exact ⟨rfl, rfl, fun g => (mapTable_getElem _ _ g).trans (group_atFaultedEntry _), rfl, rfl, rfl, rfl, rfl, rfl, rfl, rfl, rfl,
    rfl⟩

/-! ### Completed frames and the beat timer (R135, R168, R169) -/

/-- Settles O36. -/
theorem frameCompletionAndBeatTimer : Obligations.FrameCompletionAndBeatTimer := by
  unfold Obligations.FrameCompletionAndBeatTimer
  refine ⟨?_, ?_⟩
  · rintro s u f hv hf rfl
    have hexec : exec .frameComplete s = .next (
        if f.kind = .join then joinCompleted (s.setLine (s.line.afterComplete s.ctrl.settings.address))
        else s.setLine (s.line.afterComplete s.ctrl.settings.address)) := by
      change execFrameComplete s = _
      rw [execFrameComplete, hv, hf]
    refine ⟨fun hk => by rw [hexec, if_neg hk]; rfl, fun hk => ?_⟩
    have hv' : (s.setLine (s.line.afterComplete s.ctrl.settings.address)).ctrl.station.voting = true := hv
    rw [hexec, if_pos hk, joinCompleted_eq, if_pos hv', queueInsert_beat]
    rfl
  · rintro s u r hv hr rfl
    have hv' : (elapse r s).ctrl.station.voting = true := hv
    have hexec : exec .beatTimerExpiry s = .next (takeBeatExpiry (elapse r s)) := by
      change execBeatTimerExpiry s = _
      rw [execBeatTimerExpiry, hv, hr]
    rw [hexec, takeBeatExpiry]
    dsimp only
    rw [insertItem_eq, if_pos hv', queueInsert_beat]
    rfl

/-! ### Aborts (R137, R152 to R154) -/

theorem single_clear {items : List SendItem} (h : items.length = 1 ∧ ∀ i ∈ items, i.isClear = true) :
    ∃ m, items = [.clear m] := by
  obtain ⟨hlen, hclear⟩ := h
  obtain ⟨i, rfl⟩ := List.length_eq_one_iff.mp hlen
  cases i with
  | clear m => exact ⟨m, rfl⟩
  | join | beat | change | probe => exact absurd (hclear _ List.mem_cons_self) Bool.false_ne_true

/-- Settles O37. -/
theorem abortedFramesAreRestored : Obligations.AbortedFramesAreRestored := by
  unfold Obligations.AbortedFramesAreRestored
  rintro s u f q hv hf hfits hq rfl
  have hrestored : q = restoreItems f.items s.line.queue := by
    obtain ⟨kind, n, body, items⟩ := f
    cases kind with
    | join =>
      obtain rfl : items = [.join] := hfits
      exact hq.trans (restoreItems_join _).symm
    | beat =>
      obtain rfl : items = [.beat] := hfits
      exact hq.trans (restoreItems_beat _).symm
    | change =>
      refine (hq.trans ?_).trans (restoreItems_changes s.line.queue hfits.2).symm
      exact congrArg (· ++ _) (List.filter_congr fun i _ => by cases i <;> rfl)
    | probe => exact hq.trans (restoreItems_probes _ hfits.2).symm
    | clear =>
      obtain ⟨m, rfl⟩ := single_clear hfits
      exact hq.trans (restoreItems_clear m _).symm
  have hexec : exec .abort s = .next (
      if 8 ≤ s.line.aborts + 1 then enterFaulted .line (s.setLine (s.line.afterAbort f)) else s.setLine (s.line.afterAbort f)) := by
    change execAbort s = _
    rw [execAbort, hv, hf]
    rfl
  rw [hexec, hrestored]
  refine ⟨fun ha => by rw [if_neg (by omega)]; rfl, fun ha => ?_⟩
  rw [if_pos (by omega)]
  exact ⟨_, rfl, entersFaulted_enterFaulted .line (online_of_voting hv)⟩

/-! ### Broken frames and gaps (R145, R146) -/

theorem abandonFrame_none {s : State} {reason : BrokenReason}
    (h : s.ctrl.station.online = false ∨ s.line.receiver.afterBroken reason = none) : abandonFrame reason s = s := by
  unfold abandonFrame
  rcases h with h | h
  · exact if_neg fun hc => by rw [h] at hc; exact Bool.false_ne_true hc.1
  · split
    · rw [h]
    · rfl

theorem abandonFrame_some {s : State} {reason : BrokenReason} {r : Receiver} (ho : s.ctrl.station.online = true)
    (hf : s.line.inFlight = none) (h : s.line.receiver.afterBroken reason = some r) :
    abandonFrame reason s = s.setLine { s.line with receiver := r, slots := .stopped } := by
  rw [abandonFrame, if_pos ⟨ho, hf⟩, h]

theorem afterBroken_ofWaiting {r : Receiver} (h : r.collects = false) (reason : BrokenReason) : r.afterBroken reason = none := by
  cases r with
  | idle | entered | waiting => rfl
  | timing | collecting => cases h

/-- The receiver after a frame in collection is abandoned (R145, R146). -/
theorem afterBroken_ofFrame {r : Receiver} {reason : BrokenReason}
    (h : r = .timing false ∨ r = .collecting ∨ (r = .timing true ∧ reason ≠ .shortBreak)) :
    r.afterBroken reason = some (if reason = .newBreak then .collecting else .waiting true) := by
  rcases h with rfl | rfl | ⟨rfl, hne⟩
  · cases reason <;> rfl
  · cases reason <;> rfl
  · cases reason with
    | shortBreak => exact absurd rfl hne
    | stopBit | bodyLength | checkValue | fitToKind | newBreak => rfl

theorem timeOutGap_none {s : State} (h : s.ctrl.station.online = false ∨ s.line.receiver.collects = false) :
    timeOutGap s = s := by
  unfold timeOutGap
  rcases h with h | h
  · exact if_neg fun hc => by rw [h] at hc; exact Bool.false_ne_true hc.1
  · split
    · cases hr : s.line.receiver with
      | idle | entered | waiting => rfl
      | timing | collecting => rw [hr] at h; cases h
    · rfl

theorem timeOutGap_some {s : State} (ho : s.ctrl.station.online = true) (hf : s.line.inFlight = none)
    (h : (∃ b, s.line.receiver = .timing b) ∨ s.line.receiver = .collecting) :
    timeOutGap s = s.setLine { s.line with receiver := .waiting true } := by
  rw [timeOutGap, if_pos ⟨ho, hf⟩]
  rcases h with ⟨b, h⟩ | h <;> rw [h]

/-- Where no frame can be collected, none is taken (R130, R145). -/
theorem acceptFrame_none {s : State} (h : s.ctrl.station.online = false ∨ s.line.receiver.collects = false) (a : Address)
    (rest : State → State) : acceptFrame a rest s = s := by
  refine acceptFrame_ignored a rest s fun ⟨ho, _, hcollects⟩ => ?_
  rcases h with h | h
  · exact Bool.false_ne_true (h.symm.trans ho)
  · exact Bool.false_ne_true (h.symm.trans hcollects)

/-- A command that stands for a frame, the report of the own address aside, is a frame taken or one broken by its fit. -/
theorem exec_carriesFrame {i : Instr} (h : carriesFrame i) (hne : i ≠ .duplicateAddress) (s : State) :
    ∃ t, exec i s = .next t ∧ ((∃ a rest, t = acceptFrame a rest s) ∨ t = abandonFrame .fitToKind s) := by
  rcases h with h | ⟨a, rfl⟩ | h
  · cases i
    case receiveJoin | receiveBeat | receiveClear => exact ⟨_, rfl, .inl ⟨_, _, rfl⟩⟩
    case receiveChange | receiveProbe =>
      exact ⟨_, rfl, (ite_eq_or_eq _ _ _).imp (fun ht => ⟨_, _, ht⟩) id⟩
    all_goals cases h
  · exact ⟨_, rfl, .inl ⟨_, _, rfl⟩⟩
  · exact absurd h hne

theorem exec_carriesFrame_none {i : Instr} (h : carriesFrame i) (hne : i ≠ .duplicateAddress) {s : State}
    (hs : s.ctrl.station.online = false ∨ s.line.receiver.collects = false) : exec i s = .next s := by
  obtain ⟨t, hexec, ⟨a, rest, rfl⟩ | rfl⟩ := exec_carriesFrame h hne s
  · rw [hexec, acceptFrame_none hs]
  · rw [hexec, abandonFrame_none (hs.imp id fun hc => afterBroken_ofWaiting hc _)]

theorem reportDuplicate_none {s : State} (h : s.ctrl.station.online = false ∨ s.line.receiver.hasOpened = false) :
    reportDuplicate s = s := by
  refine reportDuplicate_ignored fun ⟨ho, hopened⟩ => ?_
  rcases h with h | h
  · exact Bool.false_ne_true (h.symm.trans ho)
  · exact Bool.false_ne_true (h.symm.trans hopened)

theorem execLineActivity_online {s : State} (h : s.ctrl.station.online = true) :
    exec .lineActivity s = .next (s.setLine { s.line with slots := .stopped, receiver := s.line.receiver.onDominant }) :=
  congrArg _ (if_pos h)

/-- Settles O38. -/
theorem brokenFramesReachNoBlock : Obligations.BrokenFramesReachNoBlock := by
  unfold Obligations.BrokenFramesReachNoBlock
  refine fun s => ⟨fun ho i hi => ?_, fun ho => ⟨?_, fun hf => ⟨fun reason hr => ?_, fun hr => ?_, fun hr => ?_, ?_, ?_⟩⟩⟩
  · rcases hi with hi | ⟨reason, rfl⟩ | rfl | rfl
    · by_cases hne : i = .duplicateAddress
      · subst hne
        exact congrArg _ (reportDuplicate_none (.inl ho))
      · exact exec_carriesFrame_none hi hne (.inl ho)
    · exact congrArg _ (abandonFrame_none (.inl ho))
    · exact congrArg _ (timeOutGap_none (.inl ho))
    · exact congrArg _ (if_neg (by rw [ho]; exact Bool.false_ne_true))
  · rw [execLineActivity_online ho]
    cases s.line.receiver <;> rfl
  · change Host.Outcome.next (abandonFrame reason s) = _
    rw [abandonFrame_some ho hf (afterBroken_ofFrame hr)]
  · exact congrArg _ (abandonFrame_none (.inr (by rw [hr]; rfl)))
  · exact congrArg _ (timeOutGap_some ho hf hr)
  · rintro ⟨b, hr⟩ i hi
    have hcollects : s.line.receiver.collects = false := by rcases hr with hr | hr <;> rw [hr] <;> rfl
    rcases hi with ⟨hi, hne⟩ | ⟨reason, rfl⟩ | rfl
    · exact exec_carriesFrame_none hi hne (.inr hcollects)
    · exact congrArg _ (abandonFrame_none (.inr (afterBroken_ofWaiting hcollects _)))
    · exact congrArg _ (timeOutGap_none (.inr hcollects))
  · rintro ⟨b, hr⟩
    exact congrArg _ (reportDuplicate_none (.inr (by rw [hr]; rfl)))

/-! ### The own address heard (R155, R171) -/

theorem collects_iff {r : Receiver} : r.collects = true ↔ (∃ b, r = .timing b) ∨ r = .collecting := by
  cases r <;> simp [Receiver.collects]

/-- Entry to FAULTED leaves nothing of where slot count and receiver stood. -/
theorem entersFaulted_afterFrame {s : State} (ho : s.ctrl.station.online = true) (a : Address) (cause : FaultCause) :
    entersFaulted cause (s.setLine { s.line with lastSender := some a })
      (enterFaulted cause (s.setLine (s.line.afterFrame a))) :=
  entersFaulted_enterFaulted (u := s.setLine (s.line.afterFrame a)) cause ho

/-- Settles O39. -/
theorem ownAddressHeardFaultsTheStation : Obligations.OwnAddressHeardFaultsTheStation := by
  unfold Obligations.OwnAddressHeardFaultsTheStation
  intro s ho
  refine ⟨fun a hcoll ha => ?_, fun i hi => ?_⟩
  · obtain ⟨hf, hc⟩ := hcoll
    exact congrArg _ (acceptFrame_peer ⟨ho, hf, collects_iff.mpr hc⟩ ha)
  · refine ⟨_, ?_, entersFaulted_afterFrame ho s.ctrl.settings.address .duplicateAddress⟩
    rcases hi with ⟨rfl, hidle, hentered⟩ | ⟨⟨hf, hc⟩, hi⟩
    · have hopened : s.line.receiver.hasOpened = true := by
        cases hr : s.line.receiver with
        | idle => exact absurd hr hidle
        | entered b => exact absurd hr (hentered b)
        | waiting | timing | collecting => rfl
      exact congrArg _ (reportDuplicate_taken ⟨ho, hopened⟩)
    · have hown (rest : State → State) := acceptFrame_own (rest := rest) ⟨ho, hf, collects_iff.mpr hc⟩ rfl
      rcases hi with rfl | ⟨q, d, b, m, rfl⟩ | ⟨q, d, w, rfl⟩ | ⟨q, l, h1, h8, rfl⟩ | ⟨q, l, h1, h4, rfl⟩ | ⟨q, m, rfl⟩
      · exact congrArg _ (hown _)
      · exact congrArg _ (hown _)
      · exact congrArg _ (hown _)
      · exact congrArg _ ((if_pos ⟨h1, h8⟩).trans (hown _))
      · exact congrArg _ ((if_pos ⟨h1, h4⟩).trans (hown _))
      · exact congrArg _ (hown _)

/-! ### Slots (R149 to R151) -/

theorem slotOwner_eq_some {last : Option Address} {k : Nat} {own : Address} :
    slotOwner last k = some own ↔ ∃ l ∈ last, (l.val + 1 + k) % 16 = own.val := by
  simp only [slotOwner, Option.map_eq_some_iff, Option.mem_def]
  refine exists_congr fun l => and_congr_right fun _ => ?_
  rw [Fin.ext_iff]
  simp [Fin.add_def]

theorem execSlotStart_next {s : State} {k : Nat} (ho : s.ctrl.station.online = true) (hf : s.line.inFlight = none)
    (hk : s.line.slots.next = some k) : exec .slotStart s = .next (beginSlot k s) := by
  change execSlotStart s = _
  rw [execSlotStart, ho, hf, hk]

theorem startFrame_emptyQueue {s : State} (h : s.line.queue = []) : startFrame s = s := by
  unfold startFrame buildFrame
  rw [h]

theorem beginSlot_owned {s : State} {k : Nat} (hv : s.ctrl.station.voting = true)
    (h : ∃ l ∈ s.line.lastSender, (l.val + 1 + k) % 16 = s.ctrl.settings.address.val) :
    beginSlot k s = startFrame (s.setLine { s.line with slots := .slot k }) :=
  if_pos ⟨hv, slotOwner_eq_some.mpr h⟩

/-- A slot that starts no frame passes (R150, R151). -/
theorem beginSlot_passes {s : State} {k : Nat} (h : ¬(s.ctrl.station.voting = true ∧ s.line.queue ≠ [] ∧
    ∃ l ∈ s.line.lastSender, (l.val + 1 + k) % 16 = s.ctrl.settings.address.val)) :
    beginSlot k s = s.setLine { s.line with slots := .slot k } := by
  unfold beginSlot
  dsimp only
  split
  next howned =>
    obtain ⟨hv, howner⟩ := howned
    exact startFrame_emptyQueue (by_contra fun hq => h ⟨hv, hq, slotOwner_eq_some.mp howner⟩)
  next => rfl

/-! ### The content of a frame (R124 to R127) -/

theorem oneBit_getLsbD : ∀ c d : Channel, (1#8 <<< d.val).getLsbD c.val = (c == d) := by decide

theorem foldl_channelSet_getLsbD (f : Channel → Bool) (c : Channel) (l : List Channel) (m : Byte) :
    (l.foldl (fun m c => if f c then m ||| (1#8 <<< c.val) else m) m).getLsbD c.val =
      (m.getLsbD c.val || (l.contains c && f c)) := by
  induction l generalizing m with
  | nil => simp
  | cons d l ih =>
    rw [List.foldl_cons, ih, List.contains_cons]
    by_cases hd : c = d
    · subst hd
      cases hf : f c <;> simp
    · have hne : (c == d) = false := beq_false_of_ne hd
      have hbit : (1#8 <<< d.val).getLsbD c.val = false := (oneBit_getLsbD c d).trans hne
      cases hf : f d
      · simp [hne]
      · simp only [if_true, BitVec.getLsbD_or, hbit, hne, Bool.or_false, Bool.false_or]

theorem channelSet_getLsbD (f : Channel → Bool) (c : Channel) : (channelSet f).getLsbD c.val = f c := by
  rw [channelSet, foldl_channelSet_getLsbD, List.contains_iff_mem.mpr (List.mem_finRange c)]
  simp

/-- Items of one kind each give their byte, in their order. -/
theorem filterMap_ofAll {α β : Type} {f : α → Option β} {l : List α} (h : ∀ i ∈ l, (f i).isSome = true) :
    (l.filterMap f).length = l.length ∧ ∀ j : Nat, (l.filterMap f)[j]? = l[j]?.bind f := by
  induction l with
  | nil => exact ⟨rfl, fun j => by simp⟩
  | cons a l ih =>
    obtain ⟨b, hb⟩ := Option.isSome_iff_exists.mp (h a List.mem_cons_self)
    obtain ⟨hlen, hget⟩ := ih fun i hi => h i (List.mem_cons_of_mem a hi)
    rw [List.filterMap_cons_some hb]
    refine ⟨congrArg (· + 1) hlen, fun j => ?_⟩
    cases j with
    | zero => simp [hb]
    | succ j => simpa using hget j

theorem changeEntry_eq (c : Channel) (v : LineVerdict) :
    changeEntry (.change c v) = some (BitVec.ofNat 8 (16 * c.val + v.code.toNat)) := by
  revert c
  cases v <;> decide

theorem changeEntry_isSome {i : SendItem} (h : i.isChange = true) : (changeEntry i).isSome = true := by
  cases i <;> first | rfl | cases h

theorem probeTarget_isSome {i : SendItem} (h : i.isProbe = true) : (probeTarget i).isSome = true := by
  cases i <;> first | rfl | cases h

theorem changes_frameCharacters (own : Address) (q : Byte) {items : List SendItem} (h : ∀ i ∈ items, i.isChange = true)
    (h1 : 1 ≤ items.length) (h8 : items.length ≤ 8) :
    encodeFrame (.receiveChange own q (items.filterMap changeEntry)) =
        some (frameCharacters 3 own q (natByte items.length :: items.filterMap changeEntry)) ∧
      decodeFrame (frameCharacters 3 own q (natByte items.length :: items.filterMap changeEntry)) =
        .receiveChange own q (items.filterMap changeEntry) := by
  obtain ⟨hlen, -⟩ := filterMap_ofAll fun i hi => changeEntry_isSome (h i hi)
  have hwf : Instr.wellFormed (.receiveChange own q (items.filterMap changeEntry)) = true := by
    simp only [Instr.wellFormed, hlen, h1, h8, decide_true, Bool.and_self]
  have henc : encodeFrame (.receiveChange own q (items.filterMap changeEntry)) =
      some (frameCharacters 3 own q (natByte items.length :: items.filterMap changeEntry)) := by
    rw [encodeFrame, hlen]
  exact ⟨henc, framesDecodeFromTheirCharacters _ _ hwf henc⟩

theorem probes_frameCharacters (own : Address) (q : Byte) {items : List SendItem} (h : ∀ i ∈ items, i.isProbe = true)
    (h1 : 1 ≤ items.length) (h4 : items.length ≤ 4) :
    encodeFrame (.receiveProbe own q (items.filterMap probeTarget)) =
        some (frameCharacters 4 own q (natByte items.length :: items.filterMap probeTarget)) ∧
      decodeFrame (frameCharacters 4 own q (natByte items.length :: items.filterMap probeTarget)) =
        .receiveProbe own q (items.filterMap probeTarget) := by
  obtain ⟨hlen, -⟩ := filterMap_ofAll fun i hi => probeTarget_isSome (h i hi)
  have hwf : Instr.wellFormed (.receiveProbe own q (items.filterMap probeTarget)) = true := by
    simp only [Instr.wellFormed, hlen, h1, h4, decide_true, Bool.and_self]
  have henc : encodeFrame (.receiveProbe own q (items.filterMap probeTarget)) =
      some (frameCharacters 4 own q (natByte items.length :: items.filterMap probeTarget)) := by
    rw [encodeFrame, hlen]
  exact ⟨henc, framesDecodeFromTheirCharacters _ _ hwf henc⟩

theorem buildFrame_of_queue {s : State} {head : SendItem} {rest : List SendItem} (h : s.line.queue = head :: rest) :
    buildFrame s = buildFrame (s.setLine { s.line with queue := head :: rest }) := by
  unfold buildFrame
  rw [h]
  rfl

/-- Settles O35. -/
theorem ownedSlotsStartFrames : Obligations.OwnedSlotsStartFrames := by
  unfold Obligations.OwnedSlotsStartFrames
  intro s k ho hf hk
  have hnext : s.line.slots.next = some k := by
    cases hs : s.line.slots with
    | notKept => rw [hs] at hk; exact hk.elim
    | stopped => rw [hs] at hk; exact congrArg some hk.symm
    | slot j => rw [hs] at hk; exact congrArg some hk.symm
  rw [execSlotStart_next ho hf hnext]
  refine ⟨fun h => by rw [beginSlot_passes h], fun hv howned head rest hq kind items left hparts => ?_⟩
  rw [beginSlot_owned hv howned]
  have hbuilt := buildFrame_of_queue (s := s.setLine { s.line with slots := .slot k }) hq
  cases head with
  | join =>
    cases hparts
    refine ⟨_, rfl, rfl, rfl, congrArg _ (startFrame_some hbuilt), fun _ _ => ?_⟩
    exact ⟨.receiveJoin s.ctrl.settings.address s.line.sequence (s.ctrl.digest.getD 0) (natByte s.ctrl.settings.beat)
      (contributingMask s.chan), rfl, framesDecodeFromTheirCharacters _ _ rfl rfl, _, channelSet_getLsbD _, rfl⟩
  | beat =>
    cases hparts
    refine ⟨_, rfl, rfl, rfl, congrArg _ (startFrame_some hbuilt), fun _ _ => ?_⟩
    have hcodes : (Vector.ofFn fun c : Channel => s.chan.channels[c].verdict.code).toList = verdictCodes s.chan := by
      rw [Vector.toList_ofFn, List.ofFn_eq_map]
      rfl
    have henc : encodeFrame (.receiveBeat s.ctrl.settings.address s.line.sequence (s.ctrl.digest.getD 0)
        (Vector.ofFn fun c : Channel => s.chan.channels[c].verdict.code)) =
        some (frameCharacters 2 s.ctrl.settings.address s.line.sequence (s.digestBytes ++ verdictCodes s.chan)) := by
      rw [encodeFrame, hcodes]
      rfl
    exact ⟨_, henc, framesDecodeFromTheirCharacters _ _ rfl henc, _, fun c => by simp, rfl⟩
  | change c v =>
    have htaken : s.line.queue.filter (·.isChange) = .change c v :: rest.filter (·.isChange) := by rw [hq]; rfl
    have hleft : (s.line.queue.filter fun i => !i.isChange) = rest.filter fun i => !i.isChange := by rw [hq]; rfl
    have hall : ∀ i ∈ SendItem.change c v :: rest.filter (·.isChange), i.isChange = true := fun i hi => by
      rw [← htaken] at hi
      exact List.of_mem_filter hi
    rw [htaken, hleft] at hparts
    cases hparts
    refine ⟨_, rfl, rfl, rfl, congrArg _ (startFrame_some hbuilt), fun h8 _ => ?_⟩
    obtain ⟨hlen, hget⟩ := filterMap_ofAll fun i hi => changeEntry_isSome (hall i hi)
    obtain ⟨henc, hdec⟩ := changes_frameCharacters s.ctrl.settings.address s.line.sequence hall
      (Nat.succ_le_succ (Nat.zero_le _)) (h8 rfl)
    exact ⟨_, henc, hdec, _, hlen, fun j d w hj => by rw [hget, hj]; exact changeEntry_eq _ _, rfl⟩
  | probe a =>
    have htaken : s.line.queue.filter (·.isProbe) = .probe a :: rest.filter (·.isProbe) := by rw [hq]; rfl
    have hleft : (s.line.queue.filter fun i => !i.isProbe) = rest.filter fun i => !i.isProbe := by rw [hq]; rfl
    have hall : ∀ i ∈ SendItem.probe a :: rest.filter (·.isProbe), i.isProbe = true := fun i hi => by
      rw [← htaken] at hi
      exact List.of_mem_filter hi
    rw [htaken, hleft] at hparts
    cases hparts
    refine ⟨_, rfl, rfl, rfl, congrArg _ (startFrame_some hbuilt), fun _ h4 => ?_⟩
    obtain ⟨hlen, hget⟩ := filterMap_ofAll fun i hi => probeTarget_isSome (hall i hi)
    obtain ⟨henc, hdec⟩ := probes_frameCharacters s.ctrl.settings.address s.line.sequence hall
      (Nat.succ_le_succ (Nat.zero_le _)) (h4 rfl)
    exact ⟨_, henc, hdec, _, hlen, fun j b hj => by rw [hget, hj]; exact rfl, rfl⟩
  | clear m =>
    cases hparts
    refine ⟨_, rfl, rfl, rfl, congrArg _ (startFrame_some hbuilt), fun _ _ => ?_⟩
    exact ⟨.receiveClear s.ctrl.settings.address s.line.sequence m, rfl, framesDecodeFromTheirCharacters _ _ rfl rfl, rfl⟩

end Sys2Proof.Transmission
end

section
/-! One update of the verdict table with the state it carries, and what peer timers, scans and frames make of it (obligations O32,
O34, O40 to O43). -/

namespace Sys2Proof.Monitor

open Sys2Proof Sys2Proof.Machine Sys2Proof.Inversion Sys2Proof.Sources Sys2Proof.Votes Sys2Proof.Notices Sys2Proof.Updates
  Sys2Proof.Lines Sys2Proof.Transmission

/-! ### The event flags under notices (R119, R183) -/

theorem or_masked {x : BitVec 7} (f : BitVec 7) (hx : x &&& 0x7C = 0#7) : (f ||| x) &&& 0x7C = f &&& 0x7C := by
  rw [BitVec.and_comm, BitVec.and_or_distrib_left, BitVec.and_comm _ x, hx, BitVec.or_zero, BitVec.and_comm]

theorem or_and_absorb (a b : BitVec 7) : a ||| (a &&& b) = a := by
  ext i
  simp only [BitVec.getElem_and, BitVec.getElem_or]
  cases a[i] <;> simp

/-- A notice raises no flag but TRIP and FIRST_OUT. -/
theorem takeNotice_flags (s : State) (n : Notice) : (takeNotice s n).port.flags &&& 0x7C = s.port.flags &&& 0x7C := by
  unfold takeNotice evaluate
  split
  next r c hr hc =>
    rw [settleEvaluation_port, clearRefused_of_ne (why := .counts) (by simp), refusePort_false]
    refine (or_masked _ ?_).trans (or_masked _ ?_) <;> split <;> rfl
  next => rfl

theorem applyUpdate_flags (ws : List Write) (after : Option PeerTable) (s : State) :
    (applyUpdate ws after s).port.flags &&& 0x7C = s.port.flags &&& 0x7C := by
  cases hst : s.ctrl.station.voting with
  | false => rw [applyUpdate_quiet _ _ _ hst]; rfl
  | true =>
    rw [applyUpdate_voting hst]
    exact foldl_keeps (P := fun u => u.port.flags &&& 0x7C = s.port.flags &&& 0x7C)
      (fun u n hu => (takeNotice_flags u n).trans hu) _ rfl

/-! ### One update and the flags it raises -/

/-- An update with the flags `raised` set after it. -/
def updated (raised : BitVec 7) (ws : List Write) (after : Option PeerTable) (u : State) : State :=
  (applyUpdate ws after u).setPort
    { (applyUpdate ws after u).port with flags := (applyUpdate ws after u).port.flags ||| raised }

/-- What one update with the flags `raised` does from `u`, the line's items aside (R26, R35, R119). -/
structure ByUpdate (raised : BitVec 7) (ws : List Write) (after : Option PeerTable) (u t : State) : Prop where
  made : madeByUpdate u raised t
  flags : flagsRaised raised u t
  peers : t.peers = after
  sources : t.sources = u.sources.map (entryAfter u.ctrl.tick ws)
  station : keepsStation u t
  votes : votesFollow u t

theorem updated_line (raised : BitVec 7) (ws : List Write) (after : Option PeerTable) (u : State) :
    (updated raised ws after u).line = u.line := (applyUpdate_frame ws after u).1.line

theorem keepsStation_of_updateFrame {s t : State} (h : UpdateFrame s t) : keepsStation s t :=
  ⟨h.ctrl, h.chan, h.pins, h.pending, h.press, fun g => ⟨h.failAction g, h.startState g⟩, h.transaction, h.answer, h.staging,
    h.mask, h.flags⟩

theorem byUpdate_setLine {raised : BitVec 7} (hraised : raised &&& 0x7C = raised) (ws : List Write) (after : Option PeerTable)
    (u : State) (l : LineUnit) : ByUpdate raised ws after u ((updated raised ws after u).setLine l) := by
  obtain ⟨hframe, hpeers, hsources⟩ := applyUpdate_frame ws after u
  obtain ⟨hctrl, hchan, hpins, hpending, hpress, hgroups, htransaction, hanswer, hstaging, hmask, hflags⟩ :=
    keepsStation_of_updateFrame hframe
  refine ⟨⟨ws, after, _, rfl, rfl⟩, ?_, hpeers, hsources, ⟨hctrl, hchan, hpins, hpending, hpress, hgroups, htransaction, hanswer,
    hstaging, hmask, ?_⟩, votesFollow_applyUpdate ws after u⟩
  · change ((applyUpdate ws after u).port.flags ||| raised) &&& 0x7C = _
    rw [BitVec.and_comm, BitVec.and_or_distrib_left, BitVec.and_comm, applyUpdate_flags, BitVec.and_comm _ raised, hraised]
  · change u.port.flags &&& ((applyUpdate ws after u).port.flags ||| raised) = _
    rw [BitVec.and_or_distrib_left, hflags]
    exact or_and_absorb _ _

theorem byUpdate {raised : BitVec 7} (hraised : raised &&& 0x7C = raised) (ws : List Write) (after : Option PeerTable) (u : State) :
    ByUpdate raised ws after u (updated raised ws after u) := byUpdate_setLine hraised ws after u _

/-! ### What the writes of an update leave of an entry (R26, R28 to R31) -/

theorem entryAfter_some {tick : Tick} {ws : List Write} {e : SourceEntry} {v : Verdict} (h : lastWrite ws e.key = some v) :
    entryAfter tick ws e = writtenEntry tick v e := by
  unfold entryAfter writtenEntry
  rw [h]
  simp only [eq_comm (a := v)]

theorem lastWrite_none {ws : List Write} {k : SourceKey} (h : ∀ w ∈ ws, w.key ≠ k) : lastWrite ws k = none := by
  rw [lastWrite, List.filter_eq_nil_iff.mpr fun w hw => by simpa using h w hw]
  rfl

theorem map_discardWrites {s : State} (hkeys : keysDistinct s) (tick : Tick) (a : Address) :
    s.sources.map (entryAfter tick (discardWrites a s.sources)) = s.sources.map (discardedEntry tick a) := by
  refine List.map_congr_left fun e he => ?_
  unfold discardedEntry
  split
  next h => exact entryAfter_some (lastWrite_discard he h.1 h.2)
  next h =>
    refine entryAfter_none (lastWrite_none fun w hw hkey => h ?_)
    obtain ⟨x, hx, rfl⟩ := List.mem_map.mp hw
    obtain ⟨hxmem, hxline⟩ := List.mem_filter.mp hx
    obtain rfl : x = e := List.inj_on_of_nodup_map hkeys hxmem he hkey
    simpa using hxline

theorem map_beatWrites (l : List SourceEntry) (tick : Tick) (a : Address) (codes : Vector Byte 8) :
    l.map (entryAfter tick (beatWrites a codes l)) = l.map fun x => if x.key.station = a then
      writtenEntry tick (.line (verdictOfCode codes[x.key.channel].toNat)) x else x := by
  refine List.map_congr_left fun e he => ?_
  split
  next h =>
    have hmem : ({ key := e.key, verdict := .line (verdictOfCode codes[e.key.channel].toNat) } : Write) ∈ beatWrites a codes l :=
      List.mem_map.mpr ⟨e, List.mem_filter.mpr ⟨he, by simp [h]⟩, rfl⟩
    obtain ⟨w, hw, hkey, hlast⟩ := lastWrite_mem hmem
    obtain ⟨x, -, rfl⟩ := List.mem_map.mp hw
    have hkey : x.key = e.key := hkey
    exact (entryAfter_some hlast).trans (by simp only [hkey])
  next h => exact entryAfter_none (lastWrite_other (fun w hw => beatWrites_station hw) h)

/-! ### Votes that stand -/

/-- Where no standing the tables derive changes and no vote moves, the votes follow. -/
theorem votesFollow_still {s t : State} (hk : keepsVotes s t) (hd : ∀ r, derivedStandings t r = derivedStandings s r) :
    votesFollow s t := by
  refine ⟨fun _ => hk, fun _ _ p => ⟨fun hc => by rw [hk.1]; exact hc, fun r hr c hc => ?_⟩⟩
  rw [hk.1, if_pos (hd r)]
  exact hc

theorem derivedStandings_hear {s t : State} {v : PeerTable} {a : Address} {e : PeerEntry} (hv : s.peers = some v)
    (he : e.state = v[a].state) (hsettings : t.ctrl.settings = s.ctrl.settings) (hpeers : t.peers = some (setAt v a e))
    (hsources : t.sources = s.sources) (r : PointRecord) : derivedStandings t r = derivedStandings s r := by
  have hstate := stationState_hear (s := s) (own := s.ctrl.settings.address) (a := a) (e := v[a]) (e' := e)
    (by rw [peerAt, hv]; rfl) he
  have hwith : t.peers = withPeer a e s.peers := by rw [hpeers, hv]; rfl
  simp only [derivedStandings, hsettings, hsources, hwith, hstate]

/-! ### Peer timers (R31, R115, R116) -/

theorem silencePeer_eq (a : Address) (e : PeerEntry) (u : State) : silencePeer a e u =
    updated 0x04 (discardWrites a u.sources) (withPeer a { e with state := .silent, heal := none } u.peers) u := rfl

theorem elapse_peer {s : State} {v w : PeerTable} {n : Nat} (ho : s.ctrl.station.online = true) (hv : s.peers = some v)
    (hw : (elapse n s).peers = some w) (a : Address) : w[a] = v[a].runDown n := by
  have helapse : (elapse n s).peers = some (mapTable (PeerEntry.runDown n) v) := by
    change runPeers n s.ctrl.station s.peers = _
    rw [runPeers, if_pos ho, hv]
    rfl
  obtain rfl := Option.some.inj (hw.symm.trans helapse)
  exact mapTable_getElem _ _ a

theorem takeSilenceExpiry_heard {u : State} {a : Address} {e : PeerEntry} (h : peerAt u a = some e)
    (he : e.state = .live ∨ e.state = .gapped ∨ e.state = .excluded) :
    takeSilenceExpiry a u = silencePeer a { e with silence := none } u := by
  rw [takeSilenceExpiry, h]
  rcases he with he | he | he <;> simp only [he]

theorem takeSilenceExpiry_unheard {u : State} {a : Address} {e : PeerEntry} (h : peerAt u a = some e)
    (he : e.state = .unheard ∨ e.state = .silent ∨ e.state = .self) :
    takeSilenceExpiry a u = setPeer a { e with silence := none } u := by
  rw [takeSilenceExpiry, h]
  rcases he with he | he | he <;> simp only [he]

theorem setPeer_eq {u : State} {w : PeerTable} (h : u.peers = some w) (a : Address) (e : PeerEntry) :
    setPeer a e u = u.setPeers (some (setAt w a e)) := by rw [setPeer, h]; rfl

/-- Settles O32. -/
theorem peerTimersSilence : Obligations.PeerTimersSilence := by
  unfold Obligations.PeerTimersSilence
  rintro s u a v w n ho hv rfl hw hkeys
  have hpeer : peerAt s a = some v[a] := by rw [peerAt, hv]; rfl
  have hpeer' : peerAt (elapse n s) a = some w[a] := by rw [peerAt, hw]; rfl
  have hrun := elapse_peer ho hv hw a
  have hsilence (hs : v[a].silence = some n) : exec (.silenceTimerExpiry a) s = .next (takeSilenceExpiry a (elapse n s)) := by
    change execSilenceTimerExpiry a s = _
    rw [execSilenceTimerExpiry, ho, hpeer, Option.bind_some, hs]
  have hheal (hs : v[a].heal = some n) : exec (.healTimerExpiry a) s = .next (takeHealExpiry a (elapse n s)) := by
    change execHealTimerExpiry a s = _
    rw [execHealTimerExpiry, ho, hpeer, Option.bind_some, hs]
  have hdiscard (e : PeerEntry) := byUpdate (raised := 0x04) rfl (discardWrites a (elapse n s).sources)
    (withPeer a { e with state := .silent, heal := none } (elapse n s).peers) (elapse n s)
  have hsources := map_discardWrites hkeys (elapse n s).ctrl.tick a
  refine ⟨fun hs => ⟨fun hst => ?_, fun hst => ?_⟩, fun hs => ⟨fun hst => ?_, fun hst => ?_⟩⟩
  · rw [hsilence hs, takeSilenceExpiry_heard hpeer' (by rw [hrun]; exact hst), silencePeer_eq]
    have h := hdiscard { w[a] with silence := none }
    refine ⟨_, rfl, h.peers.trans ?_, h.sources.trans hsources, h.made, h.flags, h.station, updated_line .., h.votes⟩
    rw [hw, hrun]
    rfl
  · rw [hsilence hs, takeSilenceExpiry_unheard hpeer' (by rw [hrun]; exact hst), setPeer_eq hw]
  · have hgapped : w[a].state = .gapped := by rw [hrun]; exact hst
    rw [hheal hs, takeHealExpiry, hpeer']
    dsimp only
    rw [if_pos hgapped, silencePeer_eq]
    have h := hdiscard w[a]
    refine ⟨_, rfl, h.peers.trans ?_, h.sources.trans hsources, h.made, h.flags, h.station, updated_line .., h.votes⟩
    rw [hw]
    rfl
  · have hgapped : w[a].state ≠ .gapped := by rw [hrun]; exact hst
    rw [hheal hs, takeHealExpiry, hpeer']
    dsimp only
    rw [if_neg hgapped, setPeer_eq hw]

/-! ### Scans (R27, R89, R90, R93, R96) -/

theorem updated_zero (ws : List Write) (after : Option PeerTable) (u : State) : updated 0 ws after u = applyUpdate ws after u := by
  have hflags (f : BitVec 7) : f ||| 0 = f := BitVec.or_zero
  rw [updated, hflags]
  rfl

/-- An item inserted after an update goes into the queue as it stood. -/
theorem insertItem_updated (i : SendItem) (raised : BitVec 7) (ws : List Write) (after : Option PeerTable) (u : State) :
    insertItem i (updated raised ws after u) = (updated raised ws after u).setLine
      { u.line with queue := if u.ctrl.station.voting then queueInsert i u.line.queue else u.line.queue } := by
  have hctrl : (updated raised ws after u).ctrl = u.ctrl := (applyUpdate_frame ws after u).1.ctrl
  rw [insertItem_eq, updated_line, hctrl]

theorem online_of_clocked {st : StationState} (h : st.clocked = true) (hf : st ≠ .faulted) : st.online = true := by
  cases st <;> first | rfl | exact absurd rfl hf | cases h

/-- The record after a sample, by the one case of the persistence that fits (R89, R93). -/
theorem sampledRecord_eq (p : Profile) (r : ChannelRecord) (code : Nat) : sampledRecord p r code =
    if (classOf p r.verdict code).verdict = r.verdict then { r with lastCode := code, candidate := none, count := 0 }
    else if p.persistence ≤ runLength r (classOf p r.verdict code) then
      { r with lastCode := code, verdict := (classOf p r.verdict code).verdict, candidate := none, count := 0 }
    else
      { r with
        lastCode := code
        candidate := some (classOf p r.verdict code), count := runLength r (classOf p r.verdict code) } := by
  unfold sampledRecord persist
  split
  · rfl
  · split <;> rfl

theorem entryAfter_single (tick : Tick) (w : Write) (e : SourceEntry) :
    entryAfter tick [w] e = if e.key = w.key then writtenEntry tick w.verdict e else e := by
  split
  next h => exact entryAfter_some (by rw [lastWrite_single, if_pos h.symm])
  next h => exact entryAfter_none (by rw [lastWrite_single, if_neg fun he => h he.symm])

theorem handOn_none {c : Channel} {v : LineVerdict} {contributing : Bool} {s : State}
    (h : contributing = false ∨ s.ctrl.station.online = false) : handOn c v contributing s = s :=
  if_neg fun hc => by
    obtain ⟨hcontributing, honline⟩ := Bool.and_eq_true_iff.mp hc
    rcases h with h | h
    · exact Bool.false_ne_true (h.symm.trans hcontributing)
    · exact Bool.false_ne_true (h.symm.trans honline)

theorem handOn_some {c : Channel} {v : LineVerdict} {s : State} (h : s.ctrl.station.online = true) : handOn c v true s =
    insertItem (.change c v) (updated 0 [{ key := { station := s.ctrl.settings.address, channel := c }, verdict := .line v }]
      s.peers s) := by
  rw [updated_zero]
  exact if_pos (Bool.and_eq_true_iff.mpr ⟨rfl, h⟩)

/-- Settles O34. -/
theorem scansSampleAndPersist : Obligations.ScansSampleAndPersist := by
  unfold Obligations.ScansSampleAndPersist
  refine ⟨?_, ?_⟩
  · rintro s u r hc hr rfl
    change execScanStart s = _
    rw [execScanStart, hc, hr]
    rfl
  · intro s c rest volt r r' k n hc hscan hr hk hn hr' u hu
    have hrecord : r' = sampledRecord s.chan.profiles[r.profile] r (codeOfVoltage volt) := by
      have hrun : n = runLength r k := hn
      rw [hr', sampledRecord_eq, ← hk, ← hrun]
    have hexec : exec (.conversionComplete volt) s =
        .next (if r'.verdict = r.verdict then u else handOn c r'.verdict r.contributing u) := by
      change execConversionComplete volt s = _
      rw [execConversionComplete, hc, hscan, hu, hrecord, hr]
      rfl
    by_cases hmoves : r'.verdict ≠ r.verdict ∧ r.contributing = true ∧ s.ctrl.station ≠ .faulted
    · obtain ⟨hverdict, hcontributing, hfaulted⟩ := hmoves
      have ho : u.ctrl.station.online = true := hu ▸ online_of_clocked hc hfaulted
      rw [if_neg hverdict, hcontributing, handOn_some ho, insertItem_updated, queueInsert_change] at hexec
      have h := byUpdate_setLine (raised := 0) rfl
        [{ key := { station := u.ctrl.settings.address, channel := c }, verdict := .line r'.verdict }] u.peers u
        { u.line with queue := if u.ctrl.station.voting then
            if u.line.queue.any (·.isChangeOf c) then u.line.queue.map (·.withVerdict c r'.verdict)
            else u.line.queue ++ [.change c r'.verdict]
          else u.line.queue }
      have hchan := h.station.2.1
      refine ⟨_, hexec, hchan, fun hstill => ?_, fun _ _ _ => ⟨?_, ?_, ?_, h.made, ?_, h.station, ?_⟩⟩
      · rcases hstill with hstill | hstill | hstill
        · exact absurd hstill hverdict
        · exact absurd (hcontributing.symm.trans hstill) nofun
        · exact absurd hstill hfaulted
      · rw [h.sources, hu]
        exact List.map_congr_left fun e _ => entryAfter_single _ _ e
      · rw [hu]; rfl
      · rw [h.peers, hu]; rfl
      · have hflags := h.flags
        rw [hu] at hflags ⊢
        exact hflags
      · have hvotes := h.votes
        rw [hu] at hvotes ⊢
        exact hvotes
    · have hstill : (if r'.verdict = r.verdict then u else handOn c r'.verdict r.contributing u) = u := by
        split
        next => rfl
        next hverdict =>
          refine handOn_none ?_
          cases hcontributing : r.contributing with
          | false => exact .inl rfl
          | true =>
            have hfaulted : s.ctrl.station = .faulted := by_contra fun hf => hmoves ⟨hverdict, hcontributing, hf⟩
            have hquiet : s.ctrl.station.online = false := by rw [hfaulted]; rfl
            exact .inr (hu ▸ hquiet)
      exact ⟨u, hexec.trans (congrArg _ hstill), rfl, fun _ => rfl, fun hv hcon hf => absurd ⟨hv, hcon, hf⟩ hmoves⟩

/-! ### Frames of a peer: JOIN and BEAT (R106, R107, R109, R110) -/

/-- The line after a valid frame of a peer. -/
def heardLine (s : State) (a : Address) : State :=
  s.setLine { s.line with lastSender := some a, slots := .stopped, receiver := .waiting false }

theorem deliverFrame_hears {s : State} {v : PeerTable} {a : Address} (hs : s.hears v) (ha : a ≠ s.ctrl.settings.address)
    (effect : PeerEntry → State → State) : deliverFrame a effect s = effect v[a] (heardLine s a) := by
  obtain ⟨ho, hf, hr, hv, -⟩ := hs
  exact deliverFrame_peer ⟨ho, hf, collects_iff.mpr hr⟩ ha hv

theorem keepsStation_refl (s : State) : keepsStation s s :=
  ⟨rfl, rfl, rfl, rfl, rfl, fun _ => ⟨rfl, rfl⟩, rfl, rfl, rfl, rfl, BitVec.and_self⟩

/-- The bookkeeping alone moves no vote and nothing of the station. -/
theorem setPeer_votesFollow {u : State} {v : PeerTable} (hv : u.peers = some v) {a : Address} {e : PeerEntry}
    (he : e.state = v[a].state) : votesFollow u (setPeer a e u) := by
  rw [setPeer_eq hv]
  exact votesFollow_still ⟨rfl, rfl, rfl, rfl⟩ (derivedStandings_hear hv he rfl rfl rfl)

theorem excludePeer_excluded {a : Address} {before heard : PeerEntry} {s : State} (h : before.state = .excluded) :
    excludePeer a before heard s = setPeer a heard s := if_pos h

theorem excludePeer_other {a : Address} {before heard : PeerEntry} {s : State} (h : before.state ≠ .excluded) :
    excludePeer a before heard s =
      updated 0x0C (discardWrites a s.sources) (withPeer a { heard with state := .excluded, heal := none } s.peers) s := by
  have hflags (f : BitVec 7) : f ||| EventFlag.digest.bit ||| EventFlag.peer.bit = f ||| 0x0C := BitVec.or_assoc f _ _
  refine (if_neg h).trans ?_
  simp only [setFlag, State.setPort_port, State.setPort_setPort, hflags]
  rfl

/-- What a mismatching JOIN or BEAT does to the sender's entry, its sources and the port (R109, R110, R118). -/
def excludedBy (s : State) (v : PeerTable) (a : Address) (e : PeerEntry) (t : State) : Prop :=
  (v[a].state = .excluded → t.peers = some (setAt v a e) ∧ t.sources = s.sources ∧ keepsVotes s t ∧ t.port = s.port) ∧
    (v[a].state ≠ .excluded → t.peers = some (setAt v a { e with state := .excluded, heal := none }) ∧
      t.sources = s.sources.map (discardedEntry s.ctrl.tick a) ∧ madeByUpdate (heardLine s a) 0x0C t ∧ flagsRaised 0x0C s t)

theorem excludePeer_spec {s : State} {v : PeerTable} {a : Address} {e : PeerEntry} (hs : s.hears v)
    (he : e.state = v[a].state) {t : State} (ht : t = excludePeer a v[a] e (heardLine s a)) :
    t.line = (heardLine s a).line ∧ keepsStation s t ∧ votesFollow s t ∧ excludedBy s v a e t := by
  have hv : (heardLine s a).peers = some v := hs.2.2.2.1
  have hkeys : keysDistinct s := hs.2.2.2.2
  by_cases hex : v[a].state = .excluded
  · rw [excludePeer_excluded hex] at ht
    have hvotes := setPeer_votesFollow hv he
    rw [setPeer_eq hv] at ht hvotes
    subst ht
    exact ⟨rfl, keepsStation_refl s, hvotes, fun _ => ⟨rfl, rfl, ⟨rfl, rfl, rfl, rfl⟩, rfl⟩, fun hne => absurd hex hne⟩
  · rw [excludePeer_other hex] at ht
    subst ht
    have h := byUpdate (raised := 0x0C) rfl (discardWrites a s.sources)
      (withPeer a { e with state := .excluded, heal := none } (heardLine s a).peers) (heardLine s a)
    refine ⟨updated_line .., h.station, h.votes, fun he => absurd he hex, fun _ => ⟨h.peers.trans ?_, ?_, h.made, h.flags⟩⟩
    · rw [hv]
      rfl
    · exact h.sources.trans (map_discardWrites hkeys _ a)

theorem joinMatches_iff (d : Half) (beat : Byte) (s : State) :
    joinMatches d beat s = true ↔ s.ctrl.digest = some d ∧ beat.toNat = s.ctrl.settings.beat := by
  rw [joinMatches, Bool.and_eq_true, beq_iff_eq, beq_iff_eq]

/-- Settles O40. -/
theorem joinMovesItsSender : Obligations.JoinMovesItsSender := by
  unfold Obligations.JoinMovesItsSender
  rintro s v a q d beat chans e hs ha he h rfl
  have hv : (heardLine s a).peers = some v := hs.2.2.2.1
  have hkeys : keysDistinct s := hs.2.2.2.2
  have hexec : exec (.receiveJoin a q d beat chans) s = .next (
      if joinMatches d beat s then
        updated 0x04 (discardWrites a s.sources) (withPeer a { e with state := .live, heal := none } (heardLine s a).peers)
          (heardLine s a)
      else excludePeer a v[a] e (heardLine s a)) := by
    rw [he]
    exact congrArg _ (deliverFrame_hears hs ha _)
  rw [hexec]
  by_cases hm : joinMatches d beat s = true
  · have hmatch := (joinMatches_iff d beat s).mp hm
    rw [if_pos hm]
    have h := byUpdate (raised := 0x04) rfl (discardWrites a s.sources)
      (withPeer a { e with state := .live, heal := none } (heardLine s a).peers) (heardLine s a)
    refine ⟨_, rfl, updated_line .., h.station, h.votes, fun _ => ⟨h.peers.trans ?_, ?_, h.made, h.flags⟩,
      fun hno => absurd hmatch hno⟩
    · rw [hv]
      rfl
    · exact h.sources.trans (map_discardWrites hkeys _ a)
  · rw [if_neg hm]
    obtain ⟨hline, hstation, hvotes, hexcluded⟩ := excludePeer_spec hs (show e.state = v[a].state by rw [he]; rfl) rfl
    exact ⟨_, rfl, hline, hstation, hvotes, fun hmatch => absurd ((joinMatches_iff d beat s).mpr hmatch) hm,
      fun _ => hexcluded⟩

theorem setFlagIf_updated (b : Bool) (f : EventFlag) (ws : List Write) (after : Option PeerTable) (u : State) :
    setFlagIf b f (applyUpdate ws after u) = updated (if b then f.bit else 0) ws after u := by
  cases b
  · exact (updated_zero ws after u).symm
  · rfl

/-- Settles O41. -/
theorem beatLoadsItsSender : Obligations.BeatLoadsItsSender := by
  unfold Obligations.BeatLoadsItsSender
  rintro s v a q d codes e hs ha he h rfl
  have hv : (heardLine s a).peers = some v := hs.2.2.2.1
  have hexec : exec (.receiveBeat a q d codes) s = .next (
      if s.ctrl.digest = some d then
        setFlagIf (v[a].state != .live) .peer (applyUpdate (beatWrites a codes s.sources)
          (withPeer a { e with state := .live, heal := none } (heardLine s a).peers) (heardLine s a))
      else excludePeer a v[a] e (heardLine s a)) := by
    rw [he]
    exact congrArg _ (deliverFrame_hears hs ha _)
  rw [hexec]
  by_cases hm : s.ctrl.digest = some d
  · rw [if_pos hm, setFlagIf_updated]
    have hraised : (if (v[a].state != .live) = true then EventFlag.peer.bit else 0) &&& 0x7C =
        if (v[a].state != .live) = true then EventFlag.peer.bit else 0 := by split <;> rfl
    have h := byUpdate hraised (beatWrites a codes s.sources)
      (withPeer a { e with state := .live, heal := none } (heardLine s a).peers) (heardLine s a)
    refine ⟨_, rfl, updated_line .., h.station, h.votes, fun _ => ⟨h.peers.trans ?_, ?_, fun peer hpeer => ?_⟩,
      fun hno => absurd hm hno⟩
    · rw [hv]
      rfl
    · exact h.sources.trans (map_beatWrites _ _ a codes)
    · have hsame : peer = if (v[a].state != .live) = true then EventFlag.peer.bit else 0 := by
        rw [hpeer]
        cases v[a].state <;> rfl
      rw [hsame]
      exact ⟨h.made, h.flags⟩
  · rw [if_neg hm]
    obtain ⟨hline, hstation, hvotes, hexcluded⟩ := excludePeer_spec hs (show e.state = v[a].state by rw [he]; rfl) rfl
    exact ⟨_, rfl, hline, hstation, hvotes, fun hmatch => absurd hmatch hm, fun _ => hexcluded⟩

end Sys2Proof.Monitor
end

section
/-! Frames of a peer that carry a sequence number to be checked: CHANGE, PROBE and CLEAR (obligations O42 and O43). -/

namespace Sys2Proof.Sequenced

open Sys2Proof Sys2Proof.Machine Sys2Proof.Inversion Sys2Proof.Sources Sys2Proof.Updates Sys2Proof.Lines Sys2Proof.Clears
  Sys2Proof.Monitor

/-! ### The writes of a CHANGE (R28, R29) -/

theorem changeWrite_eq (a : Address) (b : Byte) : changeWrite a b = if h : (highNibble b).toNat < 8 then
    some { key := { station := a, channel := ⟨(highNibble b).toNat, h⟩ }, verdict := .line (verdictOfCode (lowNibble b).toNat) }
    else none := by
  unfold changeWrite indexBelow
  split <;> rfl

theorem changeWrite_key {a : Address} {b : Byte} {w : Write} (h : changeWrite a b = some w) :
    w.key.station = a ∧ w.key.channel.val = (highNibble b).toNat ∧ w.verdict = .line (verdictOfCode (lowNibble b).toNat) := by
  rw [changeWrite_eq] at h
  split at h
  · obtain rfl := Option.some.inj h
    exact ⟨rfl, rfl, rfl⟩
  · cases h

theorem changeWrites_eq_nil {a : Address} {entries : List Byte} :
    changeWrites a entries = [] ↔ ∀ b ∈ entries, 8 ≤ (highNibble b).toNat := by
  rw [changeWrites, List.filterMap_eq_nil_iff]
  refine forall₂_congr fun b _ => ?_
  rw [changeWrite_eq]
  split <;> simp <;> omega

/-- The last write to a channel of the sender is the last entry that names it. -/
theorem lastWrite_changeWrites (a : Address) (c : Channel) (entries : List Byte) :
    lastWrite (changeWrites a entries) { station := a, channel := c } =
      (lastEntryFor entries c).map fun code => .line (verdictOfCode code.toNat) := by
  have hfilter : (changeWrites a entries).filter (fun w => w.key == { station := a, channel := c }) =
      (entries.filter fun b => (highNibble b).toNat == c.val).map fun b =>
        { key := { station := a, channel := c }, verdict := .line (verdictOfCode (lowNibble b).toNat) } := by
    induction entries with
    | nil => rfl
    | cons b entries ih =>
      change List.filter _ (List.filterMap _ _) = _ at ih
      rw [changeWrites, List.filterMap_cons, changeWrite_eq]
      by_cases h8 : (highNibble b).toNat < 8
      · by_cases hc : (highNibble b).toNat = c.val
        · simp [hc, ih]
        · have hchannel : (⟨(highNibble b).toNat, h8⟩ : Channel) ≠ c := fun he => hc (congrArg Fin.val he)
          simp [h8, hc, hchannel, ih]
      · have hc : (highNibble b).toNat ≠ c.val := by omega
        simp [h8, hc, ih]
  rw [lastWrite, hfilter, lastEntryFor, List.getLast?_map, Option.map_map, Option.map_map]
  rfl

theorem changeWrites_station {a : Address} {entries : List Byte} {w : Write} (h : w ∈ changeWrites a entries) :
    w.key.station = a := by
  obtain ⟨b, -, hb⟩ := List.mem_filterMap.mp h
  exact (changeWrite_key hb).1

/-- The entry of the sender's channel after a CHANGE. -/
def changedEntry (tick : Tick) (a : Address) (entries : List Byte) (x : SourceEntry) : SourceEntry :=
  if x.key.station = a then
    (lastEntryFor entries x.key.channel).elim x fun code => writtenEntry tick (.line (verdictOfCode code.toNat)) x
  else x

theorem entryAfter_changeWrites (tick : Tick) (a : Address) (entries : List Byte) (x : SourceEntry) :
    entryAfter tick (changeWrites a entries) x = changedEntry tick a entries x := by
  unfold changedEntry
  split
  next h =>
    have hkey : x.key = { station := a, channel := x.key.channel } := by rw [← h]
    have hlast := lastWrite_changeWrites a x.key.channel entries
    rw [← hkey] at hlast
    cases hentry : lastEntryFor entries x.key.channel with
    | none => exact entryAfter_none (by rw [hlast, hentry]; rfl)
    | some code => exact entryAfter_some (by rw [hlast, hentry]; rfl)
  next h => exact entryAfter_none (lastWrite_other (fun w hw => changeWrites_station hw) h)

/-! ### A sequenced frame, by its sender's state (R108, R111 to R114) -/

section
variable {a : Address} {q : Byte} {ws : List Write} {act : Bool → State → State} {x : PeerEntry} {u : State}

theorem sequencedEffect_gap (h : x.state = .live ∧ x.expected ≠ some q) : sequencedEffect a q ws act x u = act true
    (updated 0x04 ws (withPeer a { heardEntry q u x with state := .gapped, heal := some u.beatMs } u.peers) u) := by
  unfold sequencedEffect
  simp only [h.1, if_neg h.2]
  rfl

theorem sequencedEffect_applied (h : x.state = .live ∧ x.expected = some q ∨ x.state = .gapped) :
    sequencedEffect a q ws act x u = act false (writeAndHear ws (withPeer a (heardEntry q u x) u.peers) u) := by
  unfold sequencedEffect
  rcases h with ⟨hst, hq⟩ | hst
  · simp only [hst, if_pos hq]
  · simp only [hst]

theorem sequencedEffect_asked (h : x.state = .unheard ∨ x.state = .silent) :
    sequencedEffect a q ws act x u = insertItem (.probe a) (setPeer a (heardEntry q u x) u) := by
  unfold sequencedEffect
  rcases h with h | h <;> simp only [h]

theorem sequencedEffect_ignored (h : x.state = .excluded ∨ x.state = .self) :
    sequencedEffect a q ws act x u = setPeer a (heardEntry q u x) u := by
  unfold sequencedEffect
  rcases h with h | h <;> simp only [h]

/-- Every sender is heard in sequence or GAPPED, with a gap, asked for its state, or ignored. -/
theorem sender_cases (x : PeerEntry) (q : Byte) : (x.state = .live ∧ x.expected ≠ some q) ∨
    (x.state = .live ∧ x.expected = some q ∨ x.state = .gapped) ∨ (x.state = .unheard ∨ x.state = .silent) ∨
      (x.state = .excluded ∨ x.state = .self) := by
  by_cases hq : x.expected = some q <;> cases hst : x.state <;> simp [hq]

end

theorem queueInsert_probed (s : State) (a : Address) (queue : List SendItem) :
    (if s.ctrl.station.voting then queueInsert (.probe a) queue else queue) = probed s a queue := by
  rw [queueInsert_probe, probed]
  by_cases hv : s.ctrl.station.voting = true
  · by_cases hin : SendItem.probe a ∈ queue ∨ 4 ≤ queue.countP (·.isProbe)
    · rw [if_pos hv, if_pos hin, if_neg fun h => hin.elim h.2.1 (Nat.not_le.mpr h.2.2)]
    · obtain ⟨hnot, hroom⟩ := not_or.mp hin
      rw [if_pos hv, if_neg hin, if_pos ⟨hv, hnot, Nat.not_le.mp hroom⟩]
  · rw [if_neg hv, if_neg fun h => hv h.1]

theorem flagsRaised_zero {s t : State} (h : t.port.flags = s.port.flags) : flagsRaised 0 s t := by
  rw [flagsRaised, h]
  exact BitVec.or_zero.symm

theorem writeAndHear_some {ws : List Write} (h : ws ≠ []) (after : Option PeerTable) (u : State) :
    writeAndHear ws after u = updated 0 ws after u := (if_neg h).trans (updated_zero ws after u).symm

/-- Settles O42. -/
theorem changeActsByItsSendersState : Obligations.ChangeActsByItsSendersState := by
  unfold Obligations.ChangeActsByItsSendersState
  rintro s v a q entries e sources hs ha h1 h8 rfl hsources h rfl
  have hv : (heardLine s a).peers = some v := hs.2.2.2.1
  have hafter (e : PeerEntry) : withPeer a e (heardLine s a).peers = some (setAt v a e) := by rw [hv]; rfl
  have hsources : sources = s.sources.map (entryAfter s.ctrl.tick (changeWrites a entries)) := by
    refine hsources.trans (List.map_congr_left fun x _ => ?_)
    rw [entryAfter_changeWrites, changedEntry]
    cases lastEntryFor entries x.key.channel <;> rfl
  have hexec : exec (.receiveChange a q entries) s =
      .next (sequencedEffect a q (changeWrites a entries) (probeOnGap a) v[a] (heardLine s a)) :=
    congrArg _ ((if_pos ⟨h1, h8⟩).trans (deliverFrame_hears hs ha _))
  rw [hexec]
  rcases sender_cases v[a] q with hgap | happlied | hasked | hignored
  · rw [sequencedEffect_gap hgap, probeOnGap, if_pos rfl, insertItem_updated, hafter]
    have hline := queueInsert_probed s a s.line.queue
    have h := byUpdate_setLine (raised := 0x04) rfl (changeWrites a entries) (some (setAt v a { heardBy s q v[a] with
      state := .gapped, heal := some (10 * s.ctrl.settings.beat) })) (heardLine s a)
      { (heardLine s a).line with
        queue := if s.ctrl.station.voting then queueInsert (.probe a) s.line.queue else s.line.queue }
    refine ⟨_, rfl, h.station, h.votes, ?_, fun _ _ => ⟨h.peers, h.sources.trans hsources.symm, h.made, h.flags⟩, ?_, ?_⟩
    · have hprobed : v[a].state = .unheard ∨ v[a].state = .silent ∨ v[a].state = .live ∧ v[a].expected ≠ some q :=
        .inr (.inr hgap)
      rw [if_pos hprobed, ← hline]
      rfl
    · grind
    · grind
  · rw [sequencedEffect_applied happlied, probeOnGap, if_neg Bool.false_ne_true, hafter]
    have hqueue : ¬(v[a].state = .unheard ∨ v[a].state = .silent ∨ v[a].state = .live ∧ v[a].expected ≠ some q) := by grind
    by_cases hws : changeWrites a entries = []
    · rw [writeAndHear, if_pos hws]
      rw [hws] at hsources
      have hstill : sources = s.sources := 
        hsources.trans ((List.map_congr_left fun x _ => entryAfter_nil _ x).trans (List.map_id' _))
      have hvotes := setPeer_votesFollow hv (a := a) (e := heardBy s q v[a]) rfl
      rw [setPeer_eq hv] at hvotes
      refine ⟨_, rfl, keepsStation_refl s, hvotes, ?_, ?_, fun _ => ⟨rfl, hstill.symm, flagsRaised_zero rfl, ?_,
        fun _ => ⟨⟨rfl, rfl, rfl, rfl⟩, rfl⟩⟩, ?_⟩
      · rw [if_neg hqueue]; rfl
      · grind
      · rintro ⟨b, hb, hlow⟩
        exact absurd (changeWrites_eq_nil.mp hws b hb) (Nat.not_le.mpr hlow)
      · grind
    · rw [writeAndHear_some hws]
      have h := byUpdate (raised := 0) rfl (changeWrites a entries) (some (setAt v a (heardBy s q v[a]))) (heardLine s a)
      refine ⟨_, rfl, h.station, h.votes, ?_, ?_, fun _ => ⟨h.peers, h.sources.trans hsources.symm, h.flags, fun _ => h.made,
        fun hall => absurd (changeWrites_eq_nil.mpr hall) hws⟩, ?_⟩
      · rw [if_neg hqueue]
        exact updated_line ..
      · grind
      · grind
  · rw [sequencedEffect_asked hasked, setPeer_eq hv, insertItem_eq]
    have hline := queueInsert_probed s a s.line.queue
    have hvotes := setPeer_votesFollow hv (a := a) (e := heardBy s q v[a]) rfl
    rw [setPeer_eq hv] at hvotes
    refine ⟨_, rfl, keepsStation_refl s, hvotes, ?_, ?_, ?_, fun _ => ⟨rfl, rfl, ⟨rfl, rfl, rfl, rfl⟩, rfl⟩⟩
    · have hprobed : v[a].state = .unheard ∨ v[a].state = .silent ∨ v[a].state = .live ∧ v[a].expected ≠ some q := by grind
      rw [if_pos hprobed, ← hline]
      rfl
    · grind
    · grind
  · rw [sequencedEffect_ignored hignored, setPeer_eq hv]
    have hvotes := setPeer_votesFollow hv (a := a) (e := heardBy s q v[a]) rfl
    rw [setPeer_eq hv] at hvotes
    refine ⟨_, rfl, keepsStation_refl s, hvotes, ?_, ?_, ?_, fun _ => ⟨rfl, rfl, ⟨rfl, rfl, rfl, rfl⟩, rfl⟩⟩
    · have hquiet : ¬(v[a].state = .unheard ∨ v[a].state = .silent ∨ v[a].state = .live ∧ v[a].expected ≠ some q) := by grind
      rw [if_neg hquiet]
      rfl
    · grind
    · grind

/-! ### PROBE and CLEAR: no writes, so no vote moves (R75, R112 to R114) -/

theorem map_entryAfter_nil (tick : Tick) (l : List SourceEntry) : l.map (entryAfter tick []) = l :=
  (List.map_congr_left fun x _ => entryAfter_nil tick x).trans (List.map_id' l)

/-- A LIVE peer that becomes GAPPED changes no standing: the update of a frame that writes nothing passes no notice. -/
theorem applyUpdate_gapped {u : State} {v : PeerTable} {a : Address} {e : PeerEntry} (hv : u.peers = some v)
    (hlive : v[a].state = .live) (hgapped : e.state = .gapped) :
    ∃ n, applyUpdate [] (some (setAt v a e)) u = (u.setPeers (some (setAt v a e))).setChoices n := by
  have hwritten : written [] (some (setAt v a e)) u = u.setPeers (some (setAt v a e)) := by
    rw [written, map_entryAfter_nil]
    rfl
  cases hst : u.ctrl.station.voting with
  | false => exact ⟨u.choices, (applyUpdate_quiet _ _ _ hst).trans hwritten⟩
  | true =>
    have hstanding (b : Address) (x : Verdict) (m : BitVec 3) :
        standingOf (stationState u.ctrl.settings.address u.peers b) x m =
          standingOf (stationState u.ctrl.settings.address (some (setAt v a e)) b) x m := by
      have hstate := stationState_withPeer (own := u.ctrl.settings.address) (a := a) (v := v) (e := e) b
      rw [hv]
      refine .trans ?_ (congrArg (standingOf · x m) hstate.symm)
      split
      next hb =>
        rw [hb, hgapped, stationState, hlive]
        rfl
      next => rfl
    have hchanges : updateChanges u.ctrl.settings.address u.ctrl.points u.peers (some (setAt v a e)) u.ctrl.tick [] u.sources =
        [] := by
      refine List.flatMap_eq_nil_iff.mpr fun x _ => List.filterMap_eq_nil_iff.mpr fun r _ => ?_
      rw [entryAfter_nil]
      exact if_pos (hstanding _ _ _)
    have hnone : passedNotices [] (some (setAt v a e)) u = [] := by
      rw [passedNotices, hchanges]
      rfl
    rw [applyUpdate_voting hst, hnone, hwritten]
    exact ⟨_, rfl⟩

/-- The peer table and the flags after the bookkeeping of a frame, with a gap or without. -/
def heardState (s : State) (v : PeerTable) (a : Address) (q : Byte) (gap : Bool) : State :=
  (s.setPeers (some (setAt v a (
    if gap then { heardBy s q v[a] with state := .gapped, heal := some (10 * s.ctrl.settings.beat) }
    else heardBy s q v[a])))).setPort
    { s.port with flags := if gap then s.port.flags ||| 0x04 else s.port.flags }

/-- That state with L taken, a queue and a number of choices made. -/
def heardWith (s : State) (v : PeerTable) (a : Address) (q : Byte) (gap : Bool) (queue : List SendItem) (n : Nat) : State :=
  ((heardState s v a q gap).setLine
    { s.line with lastSender := some a, slots := .stopped, receiver := .waiting false, queue := queue }).setChoices n

section
variable {s : State} {v : PeerTable} {a : Address} {q : Byte} {act : Bool → State → State}

theorem insertItem_heardWith (i : SendItem) (gap : Bool) (queue : List SendItem) (n : Nat) :
    insertItem i (heardWith s v a q gap queue n) =
      heardWith s v a q gap (if s.ctrl.station.voting then queueInsert i queue else queue) n := insertItem_eq ..

theorem probeOnGap_heardWith (gap : Bool) (queue : List SendItem) (n : Nat) :
    probeOnGap a gap (heardWith s v a q gap queue n) =
      heardWith s v a q gap (if gap then probed s a queue else queue) n := by
  cases gap
  · rfl
  · rw [probeOnGap, if_pos rfl, insertItem_heardWith, queueInsert_probed, if_pos rfl]

theorem quietEffect_gap (hv : s.peers = some v) (h : v[a].state = .live ∧ v[a].expected ≠ some q) :
    ∃ n, ∀ act : Bool → State → State,
      sequencedEffect a q [] act v[a] (heardLine s a) = act true (heardWith s v a q true s.line.queue n) := by
  have hv' : (heardLine s a).peers = some v := hv
  obtain ⟨n, hn⟩ := applyUpdate_gapped (u := heardLine s a) (a := a) (e := { heardBy s q v[a] with
    state := .gapped, heal := some (10 * s.ctrl.settings.beat) }) hv' h.1 rfl
  refine ⟨n, fun act => ?_⟩
  rw [sequencedEffect_gap h, hv']
  refine congrArg (act true) ?_
  change updated 0x04 [] (some (setAt v a { heardBy s q v[a] with
    state := .gapped, heal := some (10 * s.ctrl.settings.beat) })) (heardLine s a) = _
  rw [updated, hn]
  rfl

theorem quietEffect_applied (hv : s.peers = some v) (h : v[a].state = .live ∧ v[a].expected = some q ∨ v[a].state = .gapped) :
    sequencedEffect a q [] act v[a] (heardLine s a) = act false (heardWith s v a q false s.line.queue s.choices) := by
  have hv' : (heardLine s a).peers = some v := hv
  rw [sequencedEffect_applied h, hv']
  rfl

theorem quietEffect_ignored (hv : s.peers = some v) (h : v[a].state = .excluded ∨ v[a].state = .self) :
    sequencedEffect a q [] act v[a] (heardLine s a) = heardWith s v a q false s.line.queue s.choices := by
  rw [sequencedEffect_ignored h, setPeer_eq (u := heardLine s a) hv]
  rfl

theorem quietEffect_asked (hv : s.peers = some v) (h : v[a].state = .unheard ∨ v[a].state = .silent) :
    sequencedEffect a q [] act v[a] (heardLine s a) = heardWith s v a q false (probed s a s.line.queue) s.choices := by
  rw [sequencedEffect_asked h, setPeer_eq (u := heardLine s a) hv, ← queueInsert_probed]
  exact insertItem_heardWith (.probe a) false s.line.queue s.choices

end

/-- The queue after one insertion of a BEAT item, in JOIN and RUN (R132). -/
def beatAsked (s : State) (queue : List SendItem) : List SendItem :=
  if s.ctrl.station.voting = true ∧ .beat ∉ queue then queue ++ [.beat] else queue

theorem queueInsert_beatAsked (s : State) (queue : List SendItem) :
    (if s.ctrl.station.voting then queueInsert .beat queue else queue) = beatAsked s queue := by
  rw [queueInsert_beat, beatAsked]
  by_cases hv : s.ctrl.station.voting = true
  · by_cases hin : SendItem.beat ∈ queue <;> simp [hv, hin]
  · simp [hv]

theorem prefix_probed (s : State) (a : Address) (queue : List SendItem) : queue <+: probed s a queue := by
  unfold probed
  split
  · exact List.prefix_append ..
  · exact List.prefix_rfl

theorem prefix_beatAsked (s : State) (queue : List SendItem) : queue <+: beatAsked s queue := by
  unfold beatAsked
  split
  · exact List.prefix_append ..
  · exact List.prefix_rfl

theorem beatAsked_probed (s : State) (a : Address) (queue : List SendItem) : beatAsked s (probed s a queue) =
    if s.ctrl.station.voting = true ∧ .beat ∉ queue then probed s a queue ++ [.beat] else probed s a queue := by
  have hmem : SendItem.beat ∈ probed s a queue ↔ .beat ∈ queue := by
    unfold probed
    split <;> simp
  rw [beatAsked]
  simp only [hmem]

theorem probed_beatAsked (s : State) (a : Address) (queue : List SendItem) : probed s a (beatAsked s queue) =
    if s.ctrl.station.voting = true ∧ .probe a ∉ queue ∧ queue.countP (·.isProbe) < 4 then beatAsked s queue ++ [.probe a]
    else beatAsked s queue := by
  have hmem : SendItem.probe a ∈ beatAsked s queue ↔ .probe a ∈ queue := by
    unfold beatAsked
    split <;> simp
  have hcount : (beatAsked s queue).countP (·.isProbe) = queue.countP (·.isProbe) := by
    unfold beatAsked
    split <;> simp [SendItem.isProbe]
  rw [probed]
  simp only [hmem, hcount]

/-- The order of the two insertions moves no more than the two items (log 6). -/
theorem beatAsked_probed_perm (s : State) (a : Address) (queue : List SendItem) :
    (beatAsked s (probed s a queue)).Perm (probed s a (beatAsked s queue)) := by
  rw [beatAsked_probed, probed_beatAsked]
  unfold beatAsked probed
  by_cases hbeat : s.ctrl.station.voting = true ∧ SendItem.beat ∉ queue
  · by_cases hprobe : s.ctrl.station.voting = true ∧ SendItem.probe a ∉ queue ∧ queue.countP (·.isProbe) < 4
    · simp only [if_pos hbeat, if_pos hprobe, List.append_assoc]
      exact (List.Perm.swap _ _ _).append_left queue
    · simp only [if_pos hbeat, if_neg hprobe, List.Perm.refl]
  · simp only [if_neg hbeat, List.Perm.refl]

/-- An applied PROBE, by whether it names self and shows a gap: what it inserts, in one of the two orders (R112, log 6). -/
theorem probeAct_heardWith (s : State) (v : PeerTable) (a : Address) (q : Byte) (targets : List Byte) (gap : Bool)
    (queue : List SendItem) (n : Nat) : ∃ queue' n',
      probeAct a targets gap (heardWith s v a q gap queue n) = heardWith s v a q gap queue' n' ∧
      queue'.Perm (if gap then probed s a (if probeNames s.ctrl.settings.address targets then beatAsked s queue else queue)
        else if probeNames s.ctrl.settings.address targets then beatAsked s queue else queue) ∧
      queue <+: queue' := by
  have hchoices (m : Nat) : (heardWith s v a q gap queue n).setChoices m = heardWith s v a q gap queue m := rfl
  unfold probeAct
  split
  next hnames =>
    have hown : probeNames s.ctrl.settings.address targets = true := hnames
    cases gap with
    | true =>
      simp only [if_true, hchoices, insertItem_heardWith, queueInsert_probed, queueInsert_beatAsked, if_pos hown]
      split
      · exact ⟨_, _, rfl, beatAsked_probed_perm s a queue, (prefix_probed ..).trans (prefix_beatAsked ..)⟩
      · exact ⟨_, _, rfl, .refl _, (prefix_beatAsked ..).trans (prefix_probed ..)⟩
    | false =>
      simp only [Bool.false_eq_true, if_false, insertItem_heardWith, queueInsert_beatAsked, if_pos hown]
      exact ⟨_, _, rfl, .refl _, prefix_beatAsked ..⟩
  next hnames =>
    have hnames : ¬probeNames s.ctrl.settings.address targets = true := hnames
    rw [probeOnGap_heardWith, if_neg hnames]
    refine ⟨_, _, rfl, .refl _, ?_⟩
    cases gap
    · exact List.prefix_rfl
    · exact prefix_probed ..

theorem probeNames_iff (own : Address) (targets : List Byte) :
    probeNames own targets = true ↔ ∃ b ∈ targets, b.toNat = own.val := by
  simp [probeNames]

/-- A frame that writes nothing, by its sender's state: applied, asked for, or the bookkeeping alone (R108, R112 to R114). -/
theorem quietEffect_eq {s : State} {v : PeerTable} {a : Address} {q : Byte} (hv : s.peers = some v) {gap applied asked : Bool}
    (hgap : gap = decide (v[a].state = .live ∧ v[a].expected ≠ some q))
    (happlied : applied = decide (v[a].state = .live ∨ v[a].state = .gapped))
    (hasked : asked = decide (v[a].state = .unheard ∨ v[a].state = .silent ∨ gap = true)) :
    (applied = true → asked = gap) ∧ ∃ n, ∀ act, sequencedEffect a q [] act v[a] (heardLine s a) =
      if applied then act gap (heardWith s v a q gap s.line.queue n)
      else heardWith s v a q gap (if asked then probed s a s.line.queue else s.line.queue) n := by
  rcases sender_cases v[a] q with h | h | h | h
  · obtain ⟨rfl, rfl, rfl⟩ : gap = true ∧ applied = true ∧ asked = true := by grind
    obtain ⟨n, hn⟩ := quietEffect_gap (q := q) hv h
    exact ⟨fun _ => rfl, n, hn⟩
  · obtain ⟨rfl, rfl, rfl⟩ : gap = false ∧ applied = true ∧ asked = false := by grind
    exact ⟨fun _ => rfl, s.choices, fun act => quietEffect_applied hv h⟩
  · obtain ⟨rfl, rfl, rfl⟩ : gap = false ∧ applied = false ∧ asked = true := by grind
    exact ⟨nofun, s.choices, fun act => quietEffect_asked hv h⟩
  · obtain ⟨rfl, rfl, rfl⟩ : gap = false ∧ applied = false ∧ asked = false := by grind
    exact ⟨nofun, s.choices, fun act => quietEffect_ignored hv h⟩

/-- Settles O43. -/
theorem probeAndClearActByTheirSendersState : Obligations.ProbeAndClearActByTheirSendersState := by
  unfold Obligations.ProbeAndClearActByTheirSendersState
  rintro s v a q e hs ha rfl gap applied hgap happlied asked hasked u hu
  have hv : s.peers = some v := hs.2.2.2.1
  have hu : u = heardState s v a q gap := hu
  obtain ⟨hsame, n, heffect⟩ := quietEffect_eq hv hgap happlied hasked
  subst hu
  refine ⟨fun targets h1 h4 => ?_, fun m => ?_⟩
  · have hexec : exec (.receiveProbe a q targets) s =
        .next (sequencedEffect a q [] (probeAct a targets) v[a] (heardLine s a)) :=
      congrArg _ ((if_pos ⟨h1, h4⟩).trans (deliverFrame_hears hs ha _))
    rw [hexec, heffect]
    cases hap : applied with
    | true =>
      obtain ⟨queue, n', hact, hperm, hprefix⟩ := probeAct_heardWith s v a q targets gap s.line.queue n
      refine ⟨_, queue, rfl, ?_, ?_, hprefix⟩
      · rw [if_pos rfl, hact]
        rfl
      · have hbeats : (if true = true ∧ s.ctrl.station.voting = true ∧ SendItem.beat ∉ s.line.queue ∧
            (∃ b ∈ targets, b.toNat = s.ctrl.settings.address.val) then s.line.queue ++ [.beat] else s.line.queue) =
            if probeNames s.ctrl.settings.address targets then beatAsked s s.line.queue else s.line.queue := by
          simp only [← probeNames_iff, beatAsked]
          grind
        rw [hsame hap]
        dsimp only
        rw [hbeats]
        exact hperm
    | false =>
      refine ⟨_, if asked then probed s a s.line.queue else s.line.queue, rfl, rfl, ?_, ?_⟩
      · simp
      · split
        · exact prefix_probed ..
        · exact List.prefix_rfl
  · have hexec : exec (.receiveClear a q m) s =
        .next (sequencedEffect a q [] (fun gap u => takeClearMask m (probeOnGap a gap u)) v[a] (heardLine s a)) :=
      congrArg _ (deliverFrame_hears hs ha _)
    rw [hexec, heffect]
    cases hap : applied with
    | true =>
      obtain rfl := hsame hap
      rw [if_pos rfl, probeOnGap_heardWith]
      refine ⟨_, rfl, fun w hw => ?_⟩
      rw [(takeClearMask_frame ..).choices] at hw
      have hw : w = heardWith s v a q asked (if asked then probed s a s.line.queue else s.line.queue) n := hw
      rw [← hw]
      refine ⟨fun hrun => clearsTaken_takeClearMask m (by rw [hw]; exact hrun.2), fun hnot => takeClearMask_outsideRun _ _ ?_⟩
      rw [hw]
      exact fun hrun => hnot ⟨rfl, hrun⟩
    | false =>
      refine ⟨_, rfl, fun w hw => ⟨fun hrun => absurd hrun.1 Bool.false_ne_true, fun _ => ?_⟩⟩
      rw [if_neg Bool.false_ne_true] at hw ⊢
      exact hw.symm

end Sys2Proof.Sequenced
end

section
/-! Point timers, and the entries to JOIN and RUN (obligations O25, O26 and O31). -/

namespace Sys2Proof.Entries

open Sys2Proof Sys2Proof.Machine Sys2Proof.Inversion Sys2Proof.Votes Sys2Proof.Groups Sys2Proof.Notices Sys2Proof.Updates

/-! ### Evaluations outside RUN (R68, R79) -/

/-- What stands outside RUN when points are evaluated: outputs, first-out records and the port. -/
def pinsStand (s t : State) : Prop :=
  (∀ g : GroupNo, t.trip.groups[g].output = s.trip.groups[g].output) ∧ t.trip.firstOut = s.trip.firstOut ∧ t.port = s.port

theorem pinsStand_settled {s : State} (hst : s.ctrl.station ≠ .run) {why : Cause} (hwhy : why ≠ .clear) (p : PointNo)
    (r : PointRecord) (c : PointContext) : pinsStand s (settleEvaluation p r c why s) := by
  refine ⟨fun g => ?_, ?_, ?_⟩
  · rw [settleEvaluation_groups]
    split
    · rfl
    · rw [setAt_getElem]
      split
      next hg =>
        rw [hg, reported]
        exact if_neg hst
      next => rfl
  · rw [settleEvaluation_firstOut, if_neg fun h => hst h.2]
  · rw [settleEvaluation_port, clearRefused_of_ne hwhy, refusePort_false]
    simp only [hst, false_and, decide_false, Bool.and_false, capturePort_false, reportPort_false]

theorem assertsGroup_iff (s : State) (g : GroupNo) (p : PointNo) : assertsGroup s g p = true ↔
    ∃ r ∈ s.ctrl.points[p], r.group = g ∧ ∃ c ∈ s.contexts[p], c.state.asserting = true := by
  cases hr : s.ctrl.points[p] <;> cases hc : s.contexts[p] <;> simp [assertsGroup, hr, hc]

/-- The asserting sets hold the points in TRIPPED, RELEASING or HELD that name the group (R67). -/
def setsFit (s : State) : Prop := ∀ (g : GroupNo) (q : PointNo), q ∈ s.trip.groups[g].asserting ↔ assertsGroup s g q = true

theorem setsFit_settled {s : State} {p : PointNo} {r : PointRecord} {c d : PointContext} {why : Cause} (hs : setsFit s)
    (hr : s.ctrl.points[p] = some r) (hc : s.contexts[p] = some c) (hd : d.state = c.state) :
    setsFit (settleEvaluation p r d why s) := by
  intro g q
  have hown : assertsGroup s g p = (r.group == g && d.state.asserting) := by simp only [assertsGroup, hr, hc, hd]
  have hsame (h : (r.group == g && (moved r d why).state.asserting) = (r.group == g && d.state.asserting)) :
      q ∈ s.trip.groups[g].asserting ↔
        (if q = p then r.group == g && (moved r d why).state.asserting else assertsGroup s g q) = true := by
    rw [hs g q]
    split
    next hq => rw [hq, hown, h]
    next => rfl
  rw [assertsGroup_settled hr, settleEvaluation_groups]
  split
  next hstill => exact hsame (by rw [hstill])
  next =>
    by_cases hg : g = r.group
    · subst hg
      rw [setAt_getElem, if_pos rfl, reported, beq_self_eq_true, Bool.true_and]
      refine (mem_assertingAfter ..).trans ?_
      rw [hs r.group q]
      split <;> rfl
    · rw [setAt_getElem_ne _ _ _ _ hg]
      exact hsame (by rw [beq_eq_false_iff_ne.mpr (Ne.symm hg)]; rfl)

/-- JOIN entry keeps the pins and carries the sets along. -/
theorem evaluateAll_outsideRun {s : State} (hst : s.ctrl.station ≠ .run) :
    pinsStand s (evaluateAll s) ∧ (setsFit s → setsFit (evaluateAll s)) := by
  have hall := foldl_keeps (P := fun u => u.ctrl = s.ctrl ∧ pinsStand s u ∧ (setsFit s → setsFit u)) (f := joinEntryPoint)
    (fun u p ⟨hctrl, hpins, hsets⟩ => ?_) (List.finRange 24) ⟨rfl, ⟨fun _ => rfl, rfl, rfl⟩, id⟩
  · exact hall.2
  · unfold joinEntryPoint evaluate
    split
    next r c hr hc =>
      obtain ⟨hout, hfirst, hport⟩ := hpins
      obtain ⟨hout', hfirst', hport'⟩ := pinsStand_settled (s := u) (hctrl ▸ hst) (why := .counts) (by simp) p r
        (recount r (derivedStandings u r) c)
      exact ⟨(settleEvaluation_frame ..).ctrl.trans hctrl, ⟨fun g => (hout' g).trans (hout g), hfirst'.trans hfirst,
        hport'.trans hport⟩, fun h => setsFit_settled (hsets h) hr hc rfl⟩
    next => exact ⟨hctrl, hpins, hsets⟩

/-! ### The end of the listen period (R59, R166, R167) -/

/-- A point in CLEAR, evaluated once (R44). -/
theorem movedByCounts_clear {r : PointRecord} {d : PointContext} (hst : d.state = .clear) (ht : d.timer = none) :
    movedByCounts r d =
      if d.effectiveQuorum ≤ d.count then
        if r.confirm = 0 then { d with state := .tripped }
        else { d with state := .arming, timer := some { kind := .confirm, remaining := r.confirm } }
      else d := by
  obtain ⟨state, standings, e, n, u, count, quorum, timer⟩ := d
  obtain rfl : state = .clear := hst
  obtain rfl : timer = none := ht
  by_cases hconfirm : r.confirm = 0 <;> simp [movedByCounts, hconfirm, Nat.pos_iff_ne_zero]

theorem movedByCounts_clear_asserting {r : PointRecord} {d : PointContext} (hst : d.state = .clear) (ht : d.timer = none) :
    (movedByCounts r d).state.asserting = true ↔ (movedByCounts r d).state = .tripped := by
  rw [movedByCounts_clear hst ht]
  split
  · split <;> simp [PointState.asserting]
  · simp [hst, PointState.asserting]

/-- Settles O25. -/
theorem listenPeriodEndsInJoin : Obligations.ListenPeriodEndsInJoin := by
  unfold Obligations.ListenPeriodEndsInJoin
  rintro s u r hst hr hu hqueue
  have hexec : exec .listenPeriodExpiry s = .next (enterJoin u) := by
    change execListenPeriodExpiry s = _
    rw [execListenPeriodExpiry, hst, hr, hu]
  have hcontexts : u.contexts = s.contexts := by
    rw [hu]
    change runContexts r s.ctrl.station s.contexts = _
    rw [runContexts, hst]
    rfl
  have hpoints : u.ctrl.points = s.ctrl.points := by rw [hu]; rfl
  have hstandings (q : PointRecord) : derivedStandings (joinBase u) q = derivedStandings s q := by
    rw [← derivedStandings_elapse r s, ← hu]
    rfl
  have hcontext (p : PointNo) : (enterJoin u).contexts[p] =
      evaluatedBy (fun q c => movedByCounts q (recount q (derivedStandings s q) c)) s.ctrl.points[p] s.contexts[p] := by
    rw [enterJoin_eq, evaluateAll_context]
    simp only [hstandings]
    change evaluatedBy _ u.ctrl.points[p] u.contexts[p] = _
    rw [hpoints, hcontexts]
  have hframe := enterJoin_frame u
  obtain ⟨⟨houtput, hfirst, hport⟩, hsets⟩ := evaluateAll_outsideRun (s := joinBase u) (by simp [joinBase])
  rw [← enterJoin_eq] at houtput hfirst hport hsets
  have hline : (joinBase u).line = { s.line with
      queue := [.join]
      lastSender := some (s.line.lastSender.getD (s.ctrl.settings.address - 1)) } := by
    rw [hu]
    change ({ s.line with queue := s.line.queue ++ [.join]
                          lastSender := assumeSender s.ctrl.settings.address s.line.lastSender } : LineUnit) = _
    rw [hqueue]
    cases s.line.lastSender <;> rfl
  refine ⟨_, hexec, hframe.ctrl, hframe.line.trans hline, fun p hp => ?_, fun p q hq c hc hclear htimer d hd => ?_,
    fun hempty hclear g p => ?_, fun g => ⟨?_, ?_, ?_⟩, ?_, hframe.press, ?_, hframe.chan, hframe.peers, ?_, ?_⟩
  · rw [hcontext]
    rcases hp with hp | hp <;> rw [hp]
    · rfl
    · exact evaluatedBy_noContext ..
  · rw [hcontext, Option.mem_def.mp hq, Option.mem_def.mp hc, evaluatedBy_some]
    have hd : d = recount q (derivedStandings s q) c := hd
    rw [← hd, movedByCounts_clear (by rw [hd]; exact hclear) (by rw [hd]; exact htimer)]
  · have hfits : setsFit (joinBase u) := fun g p => by
      have hgroup : (joinBase u).trip.groups[g].asserting = [] := by rw [hu]; exact hempty g
      rw [hgroup, assertsGroup_iff]
      refine ⟨nofun, fun ⟨_, _, _, c, hc, hasserts⟩ => ?_⟩
      have hc : c ∈ s.contexts[p] := by rw [← hcontexts]; exact hc
      rw [(hclear p c hc).1] at hasserts
      cases hasserts
    rw [hsets hfits g p, assertsGroup_iff, hframe.ctrl]
    change (∃ q ∈ u.ctrl.points[p], _) ↔ _
    rw [hpoints]
    refine exists_congr fun q => and_congr_right fun hq => and_congr_right fun _ => exists_congr fun d =>
      and_congr_right fun hd => ?_
    rw [hcontext, Option.mem_def.mp hq] at hd
    cases hc : s.contexts[p] with
    | none => rw [hc] at hd; cases hd
    | some c =>
      rw [hc, evaluatedBy_some] at hd
      obtain rfl := Option.some.inj hd
      obtain ⟨hstate, htimer⟩ := hclear p c hc
      exact movedByCounts_clear_asserting hstate htimer
  · rw [houtput, hu]; rfl
  · rw [hframe.failAction, hu]; rfl
  · rw [hframe.startState, hu]; rfl
  · rw [hfirst, hu]; rfl
  · rw [hport, hu]; rfl
  · rw [hframe.sources, hu]; rfl
  · rw [hframe.pins, hu]; rfl

/-! ### The end of the settle period (R61, R70, R170) -/

theorem captureAtRunEntry_port (s : State) (g : GroupNo) : (captureAtRunEntry s g).port = { s.port with
    cursor := if (runEntryRecord s g).isSome = true ∧ s.port.cursor.group = g then { group := g, position := none }
      else s.port.cursor } := by
  unfold captureAtRunEntry
  split
  next f hf => rw [captureFirstOut_port, hf]; simp
  next hf => rw [hf]; simp

/-- The captures of RUN entry rewind the cursor if the record of its group is among them, and move nothing else of the port. -/
theorem foldl_capture_port (s : State) (l : List GroupNo) : (l.foldl captureAtRunEntry s).port = { s.port with
    cursor := if (runEntryRecord s s.port.cursor.group).isSome = true ∧ s.port.cursor.group ∈ l then
        { group := s.port.cursor.group, position := none }
      else s.port.cursor } := by
  induction l generalizing s with
  | nil => simp
  | cons g l ih =>
    have hrecord (h : GroupNo) : runEntryRecord (captureAtRunEntry s g) h = runEntryRecord s h :=
      runEntryRecord_congr (captureAtRunEntry_frame s g).ctrl (captureAtRunEntry_contexts s g)
        (by rw [captureAtRunEntry_groups])
    rw [List.foldl_cons, ih, captureAtRunEntry_port]
    by_cases hg : s.port.cursor.group = g
    · by_cases hsome : (runEntryRecord s g).isSome = true <;> simp [hg, hsome, hrecord]
    · simp [hg, hrecord]

theorem runBase_group (u : State) (g : GroupNo) : (runBase u).trip.groups[g] = u.trip.groups[g].atRunEntry :=
  mapTable_getElem Group.atRunEntry u.trip.groups g

/-- TRIP and FIRST_OUT are set at RUN entry if any group asserts (R70). -/
theorem enterRun_port (u : State) : (enterRun u).port = { u.port with
    flags := if ∃ g : GroupNo, u.trip.groups[g].asserting ≠ [] then u.port.flags ||| 0x03 else u.port.flags
    cursor := if (runEntryRecord u u.port.cursor.group).isSome = true then
        { group := u.port.cursor.group, position := none }
      else u.port.cursor } := by
  have hany : ((List.finRange 4).any fun g => !u.trip.groups[g].asserting.isEmpty) =
      decide (∃ g : GroupNo, u.trip.groups[g].asserting ≠ []) := by
    refine Bool.eq_iff_iff.mpr ?_
    simp [List.any_eq_true]
  have hflags (b : Bool) (f : BitVec 7) :
      (f ||| if b then EventFlag.trip.bit else 0) ||| (if b then EventFlag.firstOut.bit else 0) =
      if b then f ||| 0x03 else f := by
    cases b
    · exact BitVec.or_zero.trans BitVec.or_zero
    · exact BitVec.or_assoc f _ _
  have hrecord : runEntryRecord (runBase u) u.port.cursor.group = runEntryRecord u u.port.cursor.group := by
    unfold runEntryRecord
    rw [runBase_group]
    rfl
  have hcaptured := foldl_capture_port (runBase u) (List.finRange 4)
  have hbase : (runBase u).port = u.port := rfl
  change (setFlagIf ((List.finRange 4).any fun g => !u.trip.groups[g].asserting.isEmpty) .firstOut
    (setFlagIf ((List.finRange 4).any fun g => !u.trip.groups[g].asserting.isEmpty) .trip
      ((List.finRange 4).foldl captureAtRunEntry (runBase u)))).port = _
  rw [setFlagIf_port, setFlagIf_port, hcaptured, hany, hbase, hrecord]
  dsimp only
  rw [hflags]
  simp only [List.mem_finRange, and_true, decide_eq_true_eq]

/-- Settles O26. -/
theorem settlePeriodEndsInRun : Obligations.SettlePeriodEndsInRun := by
  unfold Obligations.SettlePeriodEndsInRun
  rintro s u r hst hr hu
  have hexec : exec .settlePeriodExpiry s = .next (enterRun u) := by
    change execSettlePeriodExpiry s = _
    rw [execSettlePeriodExpiry, hst, hr, hu]
  have hframe := enterRun_frame u
  have hgroups : u.trip.groups = s.trip.groups := by rw [hu]; rfl
  have hport := enterRun_port u
  have hport' : u.port = s.port := by rw [hu]; rfl
  rw [hport', hgroups] at hport
  have hempty (g : GroupNo) (h : s.trip.groups[g].asserting = []) : runEntryRecord u g = none := by
    simp only [runEntryRecord, hgroups, h]
  refine ⟨_, hexec, hframe.ctrl, fun g => ?_, fun g hg => ?_, fun g p l hg q hq c hc hlength => ?_, fun hg => ?_, ?_, ?_,
    ?_, hframe.peers, ?_, hframe.chan, ?_, hframe.press, ?_, ?_, ?_, ?_⟩
  · simp only [enterRun_groups, hgroups, Group.atRunEntry, List.isEmpty_iff]
  · rw [enterRun_firstOut, hempty g hg, hu]
    rfl
  · have hcontext : ∃ c' ∈ u.contexts[p], c'.standings = c.standings := by
      rw [hu, elapse_context, Option.mem_def.mp hc]
      split <;> exact ⟨_, rfl, rfl⟩
    obtain ⟨c', hc', hstandings⟩ := hcontext
    have hrecord : runEntryRecord u g = some
        { point := p, tick := u.ctrl.tick, subsequent := l.length, cause := .runEntry
          snapshot := (q.contributors.zip c.standings).map fun e => { source := e.1, standing := e.2 } } := by
      have hq' : u.ctrl.points[p] = some q := by rw [hu]; exact hq
      simp only [runEntryRecord, hgroups, hg, hq', Option.mem_def.mp hc', snapshotOf, hstandings]
    refine ⟨by rw [enterRun_firstOut, hrecord]; rfl, fun hcursor => ?_⟩
    rw [hport, hcursor, hrecord]
    rfl
  · rw [hport, hempty _ hg]
    rfl
  · rw [hport]
  · simp only [enterRun, runEntryOutputs, setFlagIf_contexts]
    exact (foldl_capture (runBase u) _).1
  · rw [hframe.line, hu]; rfl
  · rw [hframe.sources, hu]; rfl
  · rw [hframe.pins, hu]; rfl
  all_goals rw [hport]

/-! ### Point timers (R45, R47, R49) -/

theorem pointTimer_eq {k : TimerKind} {s : State} {p : PointNo} {c : PointContext} {n : Nat} (hc : s.contexts[p] = some c)
    (ht : c.timer = some { kind := k, remaining := n }) : pointTimer k s p = some n := by
  rw [pointTimer, hc]
  dsimp only
  rw [ht]
  exact if_pos rfl

theorem moved_confirmExpiry {r : PointRecord} {c : PointContext} (h : c.state = .arming) :
    moved r c .confirmExpiry = { c with state := .tripped, timer := none } := by simp [moved, transition, h]

theorem moved_releaseExpiry {r : PointRecord} {c : PointContext} (h : c.state = .releasing) :
    moved r c .releaseExpiry = { c with state := .clear, timer := none } := by simp [moved, transition, h]

/-- An evaluation of a point alone, at the contexts. -/
theorem settleEvaluation_moves {p : PointNo} {r : PointRecord} {c : PointContext} {why : Cause} {u : State} :
    (settleEvaluation p r c why u).contexts[p] = some (moved r c why) ∧
      ∀ q : PointNo, q ≠ p → (settleEvaluation p r c why u).contexts[q] = u.contexts[q] := by
  rw [settleEvaluation_contexts]
  exact ⟨by rw [setAt_getElem, if_pos rfl]; rfl, fun q hq => setAt_getElem_ne _ _ _ _ hq⟩

theorem assertingAfter_clear (p : PointNo) (l : List PointNo) : assertingAfter p .clear l = l.filter (· ≠ p) :=
  List.filter_congr fun q _ => by simp [bne, Bool.beq_eq_decide_eq]

/-- A point that returns to CLEAR leaves its group's set, no record is captured and no flag set (R67, R69). -/
theorem settleEvaluation_released {p : PointNo} {r : PointRecord} {c : PointContext} {u : State} (h : c.state = .releasing) :
    (settleEvaluation p r c .releaseExpiry u).trip.groups[r.group].asserting =
        u.trip.groups[r.group].asserting.filter (· ≠ p) ∧
      (settleEvaluation p r c .releaseExpiry u).trip.firstOut = u.trip.firstOut ∧
      (settleEvaluation p r c .releaseExpiry u).port = u.port := by
  have hmoved : (moved r c .releaseExpiry).state = .clear := by rw [moved_releaseExpiry h]
  refine ⟨?_, ?_, ?_⟩
  · rw [settleEvaluation_groups, hmoved, h, if_neg (by simp), setAt_getElem, if_pos rfl]
    exact assertingAfter_clear ..
  · rw [settleEvaluation_firstOut, hmoved, h]
    exact if_neg fun hc => Bool.false_ne_true hc.1
  · have hasserts : ¬(u.ctrl.station = .run ∧ u.trip.groups[r.group].asserting = [] ∧
        assertingAfter p .clear u.trip.groups[r.group].asserting ≠ []) := by
      rintro ⟨-, hnil, hne⟩
      rw [hnil] at hne
      exact hne rfl
    rw [settleEvaluation_port, clearRefused_of_ne (why := .releaseExpiry) (by simp), refusePort_false, hmoved, h,
      decide_eq_false hasserts, Bool.and_false, reportPort_false]
    exact capturePort_false ..

/-- What the expiry of a point timer leaves alone. -/
def keepsBlocks (s u t : State) : Prop :=
  t.ctrl = u.ctrl ∧ t.chan = u.chan ∧ t.line = s.line ∧ t.peers = u.peers ∧ t.sources = s.sources ∧ t.pins = s.pins ∧
    t.pending = s.pending ∧ t.choices = s.choices

/-- A point timer's expiry, as the evaluation of its point after the time left has passed. -/
theorem expiry_spec {p : PointNo} {r : PointRecord} {c d : PointContext} {why : Cause} (hwhy : why ≠ .clear)
    (hmoved : moved r c why = d) (n : Nat) (s : State) {t : State} (ht : t = settleEvaluation p r c why (elapse n s)) :
    t.contexts[p] = some d ∧ (∀ q : PointNo, q ≠ p → t.contexts[q] = (elapse n s).contexts[q]) ∧
      tripUnitFollows p r c.state d (elapse n s) t ∧ keepsBlocks s (elapse n s) t := by
  subst ht hmoved
  obtain ⟨hown, hother⟩ := settleEvaluation_moves (p := p) (r := r) (c := c) (why := why) (u := elapse n s)
  have hframe := settleEvaluation_frame p r c why (elapse n s)
  exact ⟨hown, hother, tripUnitFollows_settled (clearRefused_of_ne hwhy), hframe.ctrl, hframe.chan, hframe.line, hframe.peers,
    hframe.sources, hframe.pins, hframe.pending, hframe.choices⟩

/-- Settles O31. -/
theorem pointTimersTripAndRelease : Obligations.PointTimersTripAndRelease := by
  unfold Obligations.PointTimersTripAndRelease
  rintro s u p r c n hv hr hc rfl
  have hr' : (elapse n s).ctrl.points[p] = some r := hr
  have hc' : (elapse n s).contexts[p] = some (c.runDown n) := by rw [elapse_context, if_pos hv, hc]; rfl
  refine ⟨fun hst ht => ?_, fun hst ht => ?_⟩
  · have hexec : exec (.confirmTimerExpiry p) s = .next (settleEvaluation p r (c.runDown n) .confirmExpiry (elapse n s)) := by
      change execConfirmTimerExpiry p s = _
      rw [execConfirmTimerExpiry, hv, pointTimer_eq hc ht, ← evaluateAsCounted_some _ hr' hc']
    have hstate : (c.runDown n).state = .arming := hst
    obtain ⟨hown, hother, hfollows, hblocks⟩ := expiry_spec (p := p) (by simp) (moved_confirmExpiry (r := r) hstate) n s rfl
    rw [hstate] at hfollows
    refine ⟨_, hexec, hown, hother, hfollows, fun hjoin => ?_, hblocks⟩
    have hnotRun : (elapse n s).ctrl.station ≠ .run := by rw [elapse_station, hjoin]; simp
    obtain ⟨houtput, hfirst, hport⟩ := pinsStand_settled hnotRun (why := .confirmExpiry) (by simp) p r (c.runDown n)
    exact ⟨houtput r.group, hfirst, hport⟩
  · have hexec : exec (.releaseTimerExpiry p) s = .next (settleEvaluation p r (c.runDown n) .releaseExpiry (elapse n s)) := by
      change execReleaseTimerExpiry p s = _
      rw [execReleaseTimerExpiry, hv, pointTimer_eq hc ht, ← evaluateAsCounted_some _ hr' hc']
    have hstate : (c.runDown n).state = .releasing := hst
    obtain ⟨hown, hother, hfollows, hblocks⟩ := expiry_spec (p := p) (by simp) (moved_releaseExpiry (r := r) hstate) n s rfl
    obtain ⟨hset, hfirst, hport⟩ := settleEvaluation_released (p := p) (r := r) (u := elapse n s) hstate
    rw [hstate] at hfollows
    exact ⟨_, hexec, hown, hother, hset, hfollows, hfirst, hport, hblocks⟩

end Sys2Proof.Entries
end
